-- ==== Sys2Proof/Word.lean ====
section
/-!
DEFINITION. The two word types of the core (spec/00_scope.md R7, R8): an 8-bit byte and a 16-bit word, both
unsigned, with arithmetic modulo 2^8 and 2^16.
-/

namespace Sys2Proof

/-- An 8-bit value: a register, a memory byte, an opcode byte or an operand byte (R7, R8). -/
abbrev Byte := BitVec 8

/-- A 16-bit value: PC, SP, a register pair or an address (R7, R8). -/
abbrev Word := BitVec 16

end Sys2Proof
end

