-- ==== Sys2Proof/Config.lean ====
section
/-!
DEFINITION. The launch parameters of spec/00_scope.md R7 that a step reads: `IMPLEMENTED`, `CYCLE_COST` and
`FLAG_PLACEHOLDER`. They are plain data, so a statement about every state holds for every choice of them
(log 1, log 2).
-/

namespace Sys2Proof

/-- The key of a descriptor: an opcode byte of the base table, or the byte after the 0xCB prefix for the
extended table.  The two tables are independent namespaces (R98). -/
inductive OpKey where
  | base (b : Byte)
  | ext (b : Byte)
  deriving DecidableEq, Repr

/-- The byte that was looked up (R112, R410). -/
def OpKey.byte : OpKey → Byte
  | .base b => b
  | .ext b => b

/-- The parameters fixed at launch.  Each field's default is the default of R7. -/
structure Config where
  /-- Legal base opcodes that `IMPLEMENTED` leaves out (D1). -/
  absentBase : List Byte := []
  /-- Extended opcodes that `IMPLEMENTED` leaves out (D1). -/
  absentExt : List Byte := []
  /-- Descriptors whose `CYCLE_COST` differs from the default table (D8); the first entry of a key counts. -/
  cycleCost : List (OpKey × Nat) := []
  /-- The character shown for a clear flag (D19). -/
  flagPlaceholder : Char := '-'
  deriving DecidableEq, Repr

end Sys2Proof
end

