-- ==== Sys2Proof/Syntax.lean ====
section
/-!
DEFINITION. The syntax of the instruction set: operand names (spec/30_encoding.md R82 to R85, R91) and `Instr`, one
constructor per mnemonic of spec/opcode_table.json.

A constructor is named after its mnemonic in lower case; `atX` is the memory byte at address X, written (X) in the
spec's syntax (R99), and `HLinc`, `HLdec` are HL+ and HL-.  A constructor carries the operand bytes of its format
(R80): `n` a d8 or a8 byte, `e` an e8 byte, `w` a d16 word, `a` an a16 word, `x` STOP's ignored byte.
-/

namespace Sys2Proof

/-- The seven registers a 3-bit register field can name (R82; code 6 is the byte at HL, not a register). -/
inductive Reg8 where
  | b | c | d | e | h | l | a
  deriving DecidableEq, Repr

/-- The four register pairs (R21). -/
inductive Pair where
  | af | bc | de | hl
  deriving DecidableEq, Repr

/-- The 16-bit operands of LD rr,d16, ADD HL,rr, INC rr and DEC rr: `reg16` (R83). -/
inductive Reg16 where
  | bc | de | hl | sp
  deriving DecidableEq, Repr

/-- The conditions of the 2-bit condition field (R85). -/
inductive Cond where
  | nz | z | nc | c
  deriving DecidableEq, Repr

/-- The eight operations of the ALU group, in the order of the field `y` (R93). -/
inductive AluOp where
  | add | adc | sub | sbc | and | xor | or | cp
  deriving DecidableEq, Repr

/-- The eight operations of the rotate and shift group, in the order of the field `y` (R94). -/
inductive ShiftOp where
  | rlc | rrc | rl | rr | sla | sra | swap | srl
  deriving DecidableEq, Repr

/-- The instructions: the two outcomes of a lookup that finds no descriptor, `illegal b` for a base byte `b` without
one (R95, R96) and `prefixCb key` for a prefixed byte `key` without one (R111, R112); the base table (R93), the
instructions with operand bytes first; the extended table (R94). -/
inductive Instr where
  | illegal (b : Byte) | prefixCb (key : Byte)
  | ld_bc_d16 (w : Word) | ld_b_d8 (n : Byte) | ld_atA16_sp (a : Word) | ld_c_d8 (n : Byte) | stop (x : Byte)
  | ld_de_d16 (w : Word) | ld_d_d8 (n : Byte) | jr_e8 (e : Byte) | ld_e_d8 (n : Byte) | jr_nz_e8 (e : Byte)
  | ld_hl_d16 (w : Word) | ld_h_d8 (n : Byte) | jr_z_e8 (e : Byte) | ld_l_d8 (n : Byte) | jr_nc_e8 (e : Byte)
  | ld_sp_d16 (w : Word) | ld_atHL_d8 (n : Byte) | jr_c_e8 (e : Byte) | ld_a_d8 (n : Byte)
  | jp_nz_a16 (a : Word) | jp_a16 (a : Word) | call_nz_a16 (a : Word) | add_a_d8 (n : Byte)
  | jp_z_a16 (a : Word) | call_z_a16 (a : Word) | call_a16 (a : Word) | adc_a_d8 (n : Byte)
  | jp_nc_a16 (a : Word) | call_nc_a16 (a : Word) | sub_d8 (n : Byte) | jp_c_a16 (a : Word)
  | call_c_a16 (a : Word) | sbc_a_d8 (n : Byte) | ldh_atA8_a (n : Byte) | and_d8 (n : Byte)
  | add_sp_e8 (e : Byte) | ld_atA16_a (a : Word) | xor_d8 (n : Byte) | ldh_a_atA8 (n : Byte)
  | or_d8 (n : Byte) | ld_hl_spE8 (e : Byte) | ld_a_atA16 (a : Word) | cp_d8 (n : Byte)
  | nop | ld_atBC_a | inc_bc | inc_b | dec_b | rlca | add_hl_bc | ld_a_atBC | dec_bc | inc_c | dec_c | rrca
  | ld_atDE_a | inc_de | inc_d | dec_d | rla | add_hl_de | ld_a_atDE | dec_de | inc_e | dec_e | rra
  | ld_atHLinc_a | inc_hl | inc_h | dec_h | daa | add_hl_hl | ld_a_atHLinc | dec_hl | inc_l | dec_l | cpl
  | ld_atHLdec_a | inc_sp | inc_atHL | dec_atHL | scf | add_hl_sp | ld_a_atHLdec | dec_sp | inc_a | dec_a
  | ccf | ld_b_b | ld_b_c | ld_b_d | ld_b_e | ld_b_h | ld_b_l | ld_b_atHL | ld_b_a | ld_c_b | ld_c_c | ld_c_d
  | ld_c_e | ld_c_h | ld_c_l | ld_c_atHL | ld_c_a | ld_d_b | ld_d_c | ld_d_d | ld_d_e | ld_d_h | ld_d_l
  | ld_d_atHL | ld_d_a | ld_e_b | ld_e_c | ld_e_d | ld_e_e | ld_e_h | ld_e_l | ld_e_atHL | ld_e_a | ld_h_b
  | ld_h_c | ld_h_d | ld_h_e | ld_h_h | ld_h_l | ld_h_atHL | ld_h_a | ld_l_b | ld_l_c | ld_l_d | ld_l_e
  | ld_l_h | ld_l_l | ld_l_atHL | ld_l_a | ld_atHL_b | ld_atHL_c | ld_atHL_d | ld_atHL_e | ld_atHL_h
  | ld_atHL_l | halt | ld_atHL_a | ld_a_b | ld_a_c | ld_a_d | ld_a_e | ld_a_h | ld_a_l | ld_a_atHL | ld_a_a
  | add_a_b | add_a_c | add_a_d | add_a_e | add_a_h | add_a_l | add_a_atHL | add_a_a | adc_a_b | adc_a_c
  | adc_a_d | adc_a_e | adc_a_h | adc_a_l | adc_a_atHL | adc_a_a | sub_b | sub_c | sub_d | sub_e | sub_h
  | sub_l | sub_atHL | sub_a | sbc_a_b | sbc_a_c | sbc_a_d | sbc_a_e | sbc_a_h | sbc_a_l | sbc_a_atHL
  | sbc_a_a | and_b | and_c | and_d | and_e | and_h | and_l | and_atHL | and_a | xor_b | xor_c | xor_d | xor_e
  | xor_h | xor_l | xor_atHL | xor_a | or_b | or_c | or_d | or_e | or_h | or_l | or_atHL | or_a | cp_b | cp_c
  | cp_d | cp_e | cp_h | cp_l | cp_atHL | cp_a | ret_nz | pop_bc | push_bc | rst_00h | ret_z | ret | rst_08h
  | ret_nc | pop_de | push_de | rst_10h | ret_c | reti | rst_18h | pop_hl | ld_atC_a | push_hl | rst_20h
  | jp_hl | rst_28h | pop_af | ld_a_atC | di | push_af | rst_30h | ld_sp_hl | ei | rst_38h
  | rlc_b | rlc_c | rlc_d | rlc_e | rlc_h | rlc_l | rlc_atHL | rlc_a | rrc_b | rrc_c | rrc_d | rrc_e | rrc_h
  | rrc_l | rrc_atHL | rrc_a | rl_b | rl_c | rl_d | rl_e | rl_h | rl_l | rl_atHL | rl_a | rr_b | rr_c | rr_d
  | rr_e | rr_h | rr_l | rr_atHL | rr_a | sla_b | sla_c | sla_d | sla_e | sla_h | sla_l | sla_atHL | sla_a
  | sra_b | sra_c | sra_d | sra_e | sra_h | sra_l | sra_atHL | sra_a | swap_b | swap_c | swap_d | swap_e
  | swap_h | swap_l | swap_atHL | swap_a | srl_b | srl_c | srl_d | srl_e | srl_h | srl_l | srl_atHL | srl_a
  | bit_0_b | bit_0_c | bit_0_d | bit_0_e | bit_0_h | bit_0_l | bit_0_atHL | bit_0_a | bit_1_b | bit_1_c
  | bit_1_d | bit_1_e | bit_1_h | bit_1_l | bit_1_atHL | bit_1_a | bit_2_b | bit_2_c | bit_2_d | bit_2_e
  | bit_2_h | bit_2_l | bit_2_atHL | bit_2_a | bit_3_b | bit_3_c | bit_3_d | bit_3_e | bit_3_h | bit_3_l
  | bit_3_atHL | bit_3_a | bit_4_b | bit_4_c | bit_4_d | bit_4_e | bit_4_h | bit_4_l | bit_4_atHL | bit_4_a
  | bit_5_b | bit_5_c | bit_5_d | bit_5_e | bit_5_h | bit_5_l | bit_5_atHL | bit_5_a | bit_6_b | bit_6_c
  | bit_6_d | bit_6_e | bit_6_h | bit_6_l | bit_6_atHL | bit_6_a | bit_7_b | bit_7_c | bit_7_d | bit_7_e
  | bit_7_h | bit_7_l | bit_7_atHL | bit_7_a | res_0_b | res_0_c | res_0_d | res_0_e | res_0_h | res_0_l
  | res_0_atHL | res_0_a | res_1_b | res_1_c | res_1_d | res_1_e | res_1_h | res_1_l | res_1_atHL | res_1_a
  | res_2_b | res_2_c | res_2_d | res_2_e | res_2_h | res_2_l | res_2_atHL | res_2_a | res_3_b | res_3_c
  | res_3_d | res_3_e | res_3_h | res_3_l | res_3_atHL | res_3_a | res_4_b | res_4_c | res_4_d | res_4_e
  | res_4_h | res_4_l | res_4_atHL | res_4_a | res_5_b | res_5_c | res_5_d | res_5_e | res_5_h | res_5_l
  | res_5_atHL | res_5_a | res_6_b | res_6_c | res_6_d | res_6_e | res_6_h | res_6_l | res_6_atHL | res_6_a
  | res_7_b | res_7_c | res_7_d | res_7_e | res_7_h | res_7_l | res_7_atHL | res_7_a | set_0_b | set_0_c
  | set_0_d | set_0_e | set_0_h | set_0_l | set_0_atHL | set_0_a | set_1_b | set_1_c | set_1_d | set_1_e
  | set_1_h | set_1_l | set_1_atHL | set_1_a | set_2_b | set_2_c | set_2_d | set_2_e | set_2_h | set_2_l
  | set_2_atHL | set_2_a | set_3_b | set_3_c | set_3_d | set_3_e | set_3_h | set_3_l | set_3_atHL | set_3_a
  | set_4_b | set_4_c | set_4_d | set_4_e | set_4_h | set_4_l | set_4_atHL | set_4_a | set_5_b | set_5_c
  | set_5_d | set_5_e | set_5_h | set_5_l | set_5_atHL | set_5_a | set_6_b | set_6_c | set_6_d | set_6_e
  | set_6_h | set_6_l | set_6_atHL | set_6_a | set_7_b | set_7_c | set_7_d | set_7_e | set_7_h | set_7_l
  | set_7_atHL | set_7_a
  deriving DecidableEq, Repr

end Sys2Proof
end

