-- ==== Sys2Proof/Decode.lean ====
section
/-!
DEFINITION. The decoder and the encoder of spec/30_encoding.md, and the byte-order helpers they share with the
machine.  The decoder is written from the maps of R93 and R94, row by row as they stand there; the encoder from
the match values and formats of spec/opcode_table.json, constructor by constructor.
-/

namespace Sys2Proof

/-! ## Bytes and words -/

/-- The 16-bit value `hi << 8 | lo` (R8). -/
def joinBytes (hi lo : Byte) : Word := hi ++ lo

/-- Bits 15 to 8 of a word (R8). -/
def hiByte (w : Word) : Byte := w.extractLsb' 8 8

/-- Bits 7 to 0 of a word (R8). -/
def loByte (w : Word) : Byte := w.extractLsb' 0 8

/-- `zext_16` of R10. -/
def zext16 (b : Byte) : Word := b.zeroExtend 16

/-- `sext_16` of R10: the two's-complement sign extension of a byte. -/
def sext16 (b : Byte) : Word := b.signExtend 16

/-! ## Operand fields -/

/-- The 3-bit register field of R82. -/
def Reg8.code : Reg8 → Byte
  | .b => 0 | .c => 1 | .d => 2 | .e => 3 | .h => 4 | .l => 5 | .a => 7

/-- The 2-bit pair field of R83. -/
def Reg16.code : Reg16 → Byte
  | .bc => 0 | .de => 1 | .hl => 2 | .sp => 3

/-- The 2-bit pair field of PUSH and POP (R84). -/
def Pair.code : Pair → Byte
  | .bc => 0 | .de => 1 | .hl => 2 | .af => 3

/-- The 2-bit condition field of R85. -/
def Cond.code : Cond → Byte
  | .nz => 0 | .z => 1 | .nc => 2 | .c => 3

/-- The field `y` of the ALU group (R93). -/
def AluOp.code : AluOp → Byte
  | .add => 0 | .adc => 1 | .sub => 2 | .sbc => 3 | .and => 4 | .xor => 5 | .or => 6 | .cp => 7

/-- The field `y` of the rotate and shift group (R94). -/
def ShiftOp.code : ShiftOp → Byte
  | .rlc => 0 | .rrc => 1 | .rl => 2 | .rr => 3 | .sla => 4 | .sra => 5 | .swap => 6 | .srl => 7

/-! ## The base table -/

/-- An entry of the base table: the instruction a byte selects, with the operand bytes its format adds (R80). -/
inductive Entry where
  /-- No descriptor: an illegal byte (R95), or the prefix, which is not itself a descriptor (R111). -/
  | absent
  /-- Format `op`: no operand byte. -/
  | op (i : Instr)
  /-- Formats `op_d8`, `op_a8`, `op_e8` and `stop`: one operand byte. -/
  | imm8 (f : Byte → Instr)
  /-- Formats `op_d16` and `op_a16`: two operand bytes, the low byte first (R87). -/
  | imm16 (f : Word → Instr)

/-- How many operand bytes the format has (R80). -/
def Entry.operandCount : Entry → Nat
  | .absent => 0
  | .op _ => 0
  | .imm8 _ => 1
  | .imm16 _ => 2

/-- The instruction of the entry of byte `b`, given the two bytes that follow `b`. -/
def Entry.build (b b1 b2 : Byte) : Entry → Instr
  | .absent => .illegal b
  | .op i => i
  | .imm8 f => f b1
  | .imm16 f => f (joinBytes b2 b1)

/-- Whether the base table has a descriptor here. -/
def Entry.present : Entry → Bool
  | .absent => false
  | .op _ => true
  | .imm8 _ => true
  | .imm16 _ => true

/-- R93, row 0x. -/
def baseRow0 : List Entry :=
  [.op .nop, .imm16 .ld_bc_d16, .op .ld_atBC_a, .op .inc_bc,
   .op .inc_b, .op .dec_b, .imm8 .ld_b_d8, .op .rlca,
   .imm16 .ld_atA16_sp, .op .add_hl_bc, .op .ld_a_atBC, .op .dec_bc,
   .op .inc_c, .op .dec_c, .imm8 .ld_c_d8, .op .rrca]

/-- R93, row 1x. -/
def baseRow1 : List Entry :=
  [.imm8 .stop, .imm16 .ld_de_d16, .op .ld_atDE_a, .op .inc_de,
   .op .inc_d, .op .dec_d, .imm8 .ld_d_d8, .op .rla,
   .imm8 .jr_e8, .op .add_hl_de, .op .ld_a_atDE, .op .dec_de,
   .op .inc_e, .op .dec_e, .imm8 .ld_e_d8, .op .rra]

/-- R93, row 2x. -/
def baseRow2 : List Entry :=
  [.imm8 .jr_nz_e8, .imm16 .ld_hl_d16, .op .ld_atHLinc_a, .op .inc_hl,
   .op .inc_h, .op .dec_h, .imm8 .ld_h_d8, .op .daa,
   .imm8 .jr_z_e8, .op .add_hl_hl, .op .ld_a_atHLinc, .op .dec_hl,
   .op .inc_l, .op .dec_l, .imm8 .ld_l_d8, .op .cpl]

/-- R93, row 3x. -/
def baseRow3 : List Entry :=
  [.imm8 .jr_nc_e8, .imm16 .ld_sp_d16, .op .ld_atHLdec_a, .op .inc_sp,
   .op .inc_atHL, .op .dec_atHL, .imm8 .ld_atHL_d8, .op .scf,
   .imm8 .jr_c_e8, .op .add_hl_sp, .op .ld_a_atHLdec, .op .dec_sp,
   .op .inc_a, .op .dec_a, .imm8 .ld_a_d8, .op .ccf]

/-- R93, row 4x. -/
def baseRow4 : List Entry :=
  [.op .ld_b_b, .op .ld_b_c, .op .ld_b_d, .op .ld_b_e,
   .op .ld_b_h, .op .ld_b_l, .op .ld_b_atHL, .op .ld_b_a,
   .op .ld_c_b, .op .ld_c_c, .op .ld_c_d, .op .ld_c_e,
   .op .ld_c_h, .op .ld_c_l, .op .ld_c_atHL, .op .ld_c_a]

/-- R93, row 5x. -/
def baseRow5 : List Entry :=
  [.op .ld_d_b, .op .ld_d_c, .op .ld_d_d, .op .ld_d_e,
   .op .ld_d_h, .op .ld_d_l, .op .ld_d_atHL, .op .ld_d_a,
   .op .ld_e_b, .op .ld_e_c, .op .ld_e_d, .op .ld_e_e,
   .op .ld_e_h, .op .ld_e_l, .op .ld_e_atHL, .op .ld_e_a]

/-- R93, row 6x. -/
def baseRow6 : List Entry :=
  [.op .ld_h_b, .op .ld_h_c, .op .ld_h_d, .op .ld_h_e,
   .op .ld_h_h, .op .ld_h_l, .op .ld_h_atHL, .op .ld_h_a,
   .op .ld_l_b, .op .ld_l_c, .op .ld_l_d, .op .ld_l_e,
   .op .ld_l_h, .op .ld_l_l, .op .ld_l_atHL, .op .ld_l_a]

/-- R93, row 7x. -/
def baseRow7 : List Entry :=
  [.op .ld_atHL_b, .op .ld_atHL_c, .op .ld_atHL_d, .op .ld_atHL_e,
   .op .ld_atHL_h, .op .ld_atHL_l, .op .halt, .op .ld_atHL_a,
   .op .ld_a_b, .op .ld_a_c, .op .ld_a_d, .op .ld_a_e,
   .op .ld_a_h, .op .ld_a_l, .op .ld_a_atHL, .op .ld_a_a]

/-- R93, row 8x. -/
def baseRow8 : List Entry :=
  [.op .add_a_b, .op .add_a_c, .op .add_a_d, .op .add_a_e,
   .op .add_a_h, .op .add_a_l, .op .add_a_atHL, .op .add_a_a,
   .op .adc_a_b, .op .adc_a_c, .op .adc_a_d, .op .adc_a_e,
   .op .adc_a_h, .op .adc_a_l, .op .adc_a_atHL, .op .adc_a_a]

/-- R93, row 9x. -/
def baseRow9 : List Entry :=
  [.op .sub_b, .op .sub_c, .op .sub_d, .op .sub_e,
   .op .sub_h, .op .sub_l, .op .sub_atHL, .op .sub_a,
   .op .sbc_a_b, .op .sbc_a_c, .op .sbc_a_d, .op .sbc_a_e,
   .op .sbc_a_h, .op .sbc_a_l, .op .sbc_a_atHL, .op .sbc_a_a]

/-- R93, row Ax. -/
def baseRowA : List Entry :=
  [.op .and_b, .op .and_c, .op .and_d, .op .and_e,
   .op .and_h, .op .and_l, .op .and_atHL, .op .and_a,
   .op .xor_b, .op .xor_c, .op .xor_d, .op .xor_e,
   .op .xor_h, .op .xor_l, .op .xor_atHL, .op .xor_a]

/-- R93, row Bx. -/
def baseRowB : List Entry :=
  [.op .or_b, .op .or_c, .op .or_d, .op .or_e,
   .op .or_h, .op .or_l, .op .or_atHL, .op .or_a,
   .op .cp_b, .op .cp_c, .op .cp_d, .op .cp_e,
   .op .cp_h, .op .cp_l, .op .cp_atHL, .op .cp_a]

/-- R93, row Cx. -/
def baseRowC : List Entry :=
  [.op .ret_nz, .op .pop_bc, .imm16 .jp_nz_a16, .imm16 .jp_a16,
   .imm16 .call_nz_a16, .op .push_bc, .imm8 .add_a_d8, .op .rst_00h,
   .op .ret_z, .op .ret, .imm16 .jp_z_a16, .absent,
   .imm16 .call_z_a16, .imm16 .call_a16, .imm8 .adc_a_d8, .op .rst_08h]

/-- R93, row Dx. -/
def baseRowD : List Entry :=
  [.op .ret_nc, .op .pop_de, .imm16 .jp_nc_a16, .absent,
   .imm16 .call_nc_a16, .op .push_de, .imm8 .sub_d8, .op .rst_10h,
   .op .ret_c, .op .reti, .imm16 .jp_c_a16, .absent,
   .imm16 .call_c_a16, .absent, .imm8 .sbc_a_d8, .op .rst_18h]

/-- R93, row Ex. -/
def baseRowE : List Entry :=
  [.imm8 .ldh_atA8_a, .op .pop_hl, .op .ld_atC_a, .absent,
   .absent, .op .push_hl, .imm8 .and_d8, .op .rst_20h,
   .imm8 .add_sp_e8, .op .jp_hl, .imm16 .ld_atA16_a, .absent,
   .absent, .absent, .imm8 .xor_d8, .op .rst_28h]

/-- R93, row Fx. -/
def baseRowF : List Entry :=
  [.imm8 .ldh_a_atA8, .op .pop_af, .op .ld_a_atC, .op .di,
   .absent, .op .push_af, .imm8 .or_d8, .op .rst_30h,
   .imm8 .ld_hl_spE8, .op .ld_sp_hl, .imm16 .ld_a_atA16, .op .ei,
   .absent, .absent, .imm8 .cp_d8, .op .rst_38h]

/-- The base opcode map of R93: row = high nibble, column = low nibble. -/
def baseTable : List (List Entry) :=
  [baseRow0, baseRow1, baseRow2, baseRow3, baseRow4, baseRow5, baseRow6, baseRow7,
   baseRow8, baseRow9, baseRowA, baseRowB, baseRowC, baseRowD, baseRowE, baseRowF]

/-- The base table's entry of a byte. -/
def baseEntry (b : Byte) : Entry := (baseTable.getD (b.toNat / 16) []).getD (b.toNat % 16) .absent

/-! ## The extended table -/

/-- R94, row 0x. -/
def extRow0 : List Instr :=
  [.rlc_b, .rlc_c, .rlc_d, .rlc_e,
   .rlc_h, .rlc_l, .rlc_atHL, .rlc_a,
   .rrc_b, .rrc_c, .rrc_d, .rrc_e,
   .rrc_h, .rrc_l, .rrc_atHL, .rrc_a]

/-- R94, row 1x. -/
def extRow1 : List Instr :=
  [.rl_b, .rl_c, .rl_d, .rl_e,
   .rl_h, .rl_l, .rl_atHL, .rl_a,
   .rr_b, .rr_c, .rr_d, .rr_e,
   .rr_h, .rr_l, .rr_atHL, .rr_a]

/-- R94, row 2x. -/
def extRow2 : List Instr :=
  [.sla_b, .sla_c, .sla_d, .sla_e,
   .sla_h, .sla_l, .sla_atHL, .sla_a,
   .sra_b, .sra_c, .sra_d, .sra_e,
   .sra_h, .sra_l, .sra_atHL, .sra_a]

/-- R94, row 3x. -/
def extRow3 : List Instr :=
  [.swap_b, .swap_c, .swap_d, .swap_e,
   .swap_h, .swap_l, .swap_atHL, .swap_a,
   .srl_b, .srl_c, .srl_d, .srl_e,
   .srl_h, .srl_l, .srl_atHL, .srl_a]

/-- R94, row 4x. -/
def extRow4 : List Instr :=
  [.bit_0_b, .bit_0_c, .bit_0_d, .bit_0_e,
   .bit_0_h, .bit_0_l, .bit_0_atHL, .bit_0_a,
   .bit_1_b, .bit_1_c, .bit_1_d, .bit_1_e,
   .bit_1_h, .bit_1_l, .bit_1_atHL, .bit_1_a]

/-- R94, row 5x. -/
def extRow5 : List Instr :=
  [.bit_2_b, .bit_2_c, .bit_2_d, .bit_2_e,
   .bit_2_h, .bit_2_l, .bit_2_atHL, .bit_2_a,
   .bit_3_b, .bit_3_c, .bit_3_d, .bit_3_e,
   .bit_3_h, .bit_3_l, .bit_3_atHL, .bit_3_a]

/-- R94, row 6x. -/
def extRow6 : List Instr :=
  [.bit_4_b, .bit_4_c, .bit_4_d, .bit_4_e,
   .bit_4_h, .bit_4_l, .bit_4_atHL, .bit_4_a,
   .bit_5_b, .bit_5_c, .bit_5_d, .bit_5_e,
   .bit_5_h, .bit_5_l, .bit_5_atHL, .bit_5_a]

/-- R94, row 7x. -/
def extRow7 : List Instr :=
  [.bit_6_b, .bit_6_c, .bit_6_d, .bit_6_e,
   .bit_6_h, .bit_6_l, .bit_6_atHL, .bit_6_a,
   .bit_7_b, .bit_7_c, .bit_7_d, .bit_7_e,
   .bit_7_h, .bit_7_l, .bit_7_atHL, .bit_7_a]

/-- R94, row 8x. -/
def extRow8 : List Instr :=
  [.res_0_b, .res_0_c, .res_0_d, .res_0_e,
   .res_0_h, .res_0_l, .res_0_atHL, .res_0_a,
   .res_1_b, .res_1_c, .res_1_d, .res_1_e,
   .res_1_h, .res_1_l, .res_1_atHL, .res_1_a]

/-- R94, row 9x. -/
def extRow9 : List Instr :=
  [.res_2_b, .res_2_c, .res_2_d, .res_2_e,
   .res_2_h, .res_2_l, .res_2_atHL, .res_2_a,
   .res_3_b, .res_3_c, .res_3_d, .res_3_e,
   .res_3_h, .res_3_l, .res_3_atHL, .res_3_a]

/-- R94, row Ax. -/
def extRowA : List Instr :=
  [.res_4_b, .res_4_c, .res_4_d, .res_4_e,
   .res_4_h, .res_4_l, .res_4_atHL, .res_4_a,
   .res_5_b, .res_5_c, .res_5_d, .res_5_e,
   .res_5_h, .res_5_l, .res_5_atHL, .res_5_a]

/-- R94, row Bx. -/
def extRowB : List Instr :=
  [.res_6_b, .res_6_c, .res_6_d, .res_6_e,
   .res_6_h, .res_6_l, .res_6_atHL, .res_6_a,
   .res_7_b, .res_7_c, .res_7_d, .res_7_e,
   .res_7_h, .res_7_l, .res_7_atHL, .res_7_a]

/-- R94, row Cx. -/
def extRowC : List Instr :=
  [.set_0_b, .set_0_c, .set_0_d, .set_0_e,
   .set_0_h, .set_0_l, .set_0_atHL, .set_0_a,
   .set_1_b, .set_1_c, .set_1_d, .set_1_e,
   .set_1_h, .set_1_l, .set_1_atHL, .set_1_a]

/-- R94, row Dx. -/
def extRowD : List Instr :=
  [.set_2_b, .set_2_c, .set_2_d, .set_2_e,
   .set_2_h, .set_2_l, .set_2_atHL, .set_2_a,
   .set_3_b, .set_3_c, .set_3_d, .set_3_e,
   .set_3_h, .set_3_l, .set_3_atHL, .set_3_a]

/-- R94, row Ex. -/
def extRowE : List Instr :=
  [.set_4_b, .set_4_c, .set_4_d, .set_4_e,
   .set_4_h, .set_4_l, .set_4_atHL, .set_4_a,
   .set_5_b, .set_5_c, .set_5_d, .set_5_e,
   .set_5_h, .set_5_l, .set_5_atHL, .set_5_a]

/-- R94, row Fx. -/
def extRowF : List Instr :=
  [.set_6_b, .set_6_c, .set_6_d, .set_6_e,
   .set_6_h, .set_6_l, .set_6_atHL, .set_6_a,
   .set_7_b, .set_7_c, .set_7_d, .set_7_e,
   .set_7_h, .set_7_l, .set_7_atHL, .set_7_a]

/-- The extended opcode map of R94: row = high nibble of the second byte, column = its low nibble. -/
def extTable : List (List Instr) :=
  [extRow0, extRow1, extRow2, extRow3, extRow4, extRow5, extRow6, extRow7,
   extRow8, extRow9, extRowA, extRowB, extRowC, extRowD, extRowE, extRowF]

/-- The instruction of the extended table at a second byte. -/
def extInstr (k : Byte) : Instr := (extTable.getD (k.toNat / 16) []).getD (k.toNat % 16) (.prefixCb k)

/-! ## Decoding -/

/-- Whether a descriptor stands at a key: the map has a row there, and `IMPLEMENTED` holds it (R6, R95, R96). -/
def Config.has (c : Config) : OpKey → Bool
  | .base b => (baseEntry b).present && !c.absentBase.contains b
  | .ext k => !c.absentExt.contains k

/-- The instruction a lookup selects, given the two bytes that follow the opcode byte; a missing descriptor
gives `illegal` or `prefixCb` (R95, R96, R112). -/
def decodeKey (c : Config) (b1 b2 : Byte) : OpKey → Instr
  | .base b => if c.has (.base b) then (baseEntry b).build b b1 b2 else .illegal b
  | .ext k => if c.has (.ext k) then extInstr k else .prefixCb k

/-- Why a list of bytes is no whole instruction. -/
inductive DecodeReject where
  /-- There is no byte to decode. -/
  | noBytes
  /-- The prefix stands last: no byte selects the extended descriptor. -/
  | noExtendedByte
  /-- Fewer operand bytes follow than the opcode's format has. -/
  | noOperandBytes
  deriving DecidableEq, Repr

/-- The decoder on a list of bytes, lowest address first: the instruction at its head and the bytes after it
(R80, R92).  It is total, and it refuses only a list that ends inside an instruction. -/
def decode (c : Config) : List Byte → Except DecodeReject (Instr × List Byte)
  | [] => .error .noBytes
  | b :: rest =>
    if b = 0xCB then
      match rest with
      | [] => .error .noExtendedByte
      | k :: rest' => .ok (decodeKey c 0 0 (.ext k), rest')
    else
      let n := if c.has (.base b) then (baseEntry b).operandCount else 0
      if rest.length < n then .error .noOperandBytes
      else .ok (decodeKey c (rest.getD 0 0) (rest.getD 1 0) (.base b), rest.drop n)

/-! ## Encoding -/

/-- The descriptor key of an instruction and its operand bytes, lowest address first (R80, R101). -/
def Instr.parts : Instr → OpKey × List Byte
  | .nop => (.base 0x00, [])
  | .ld_bc_d16 w => (.base 0x01, [loByte w, hiByte w])
  | .ld_atBC_a => (.base 0x02, [])
  | .inc_bc => (.base 0x03, [])
  | .inc_b => (.base 0x04, [])
  | .dec_b => (.base 0x05, [])
  | .ld_b_d8 n => (.base 0x06, [n])
  | .rlca => (.base 0x07, [])
  | .ld_atA16_sp a => (.base 0x08, [loByte a, hiByte a])
  | .add_hl_bc => (.base 0x09, [])
  | .ld_a_atBC => (.base 0x0A, [])
  | .dec_bc => (.base 0x0B, [])
  | .inc_c => (.base 0x0C, [])
  | .dec_c => (.base 0x0D, [])
  | .ld_c_d8 n => (.base 0x0E, [n])
  | .rrca => (.base 0x0F, [])
  | .stop x => (.base 0x10, [x])
  | .ld_de_d16 w => (.base 0x11, [loByte w, hiByte w])
  | .ld_atDE_a => (.base 0x12, [])
  | .inc_de => (.base 0x13, [])
  | .inc_d => (.base 0x14, [])
  | .dec_d => (.base 0x15, [])
  | .ld_d_d8 n => (.base 0x16, [n])
  | .rla => (.base 0x17, [])
  | .jr_e8 e => (.base 0x18, [e])
  | .add_hl_de => (.base 0x19, [])
  | .ld_a_atDE => (.base 0x1A, [])
  | .dec_de => (.base 0x1B, [])
  | .inc_e => (.base 0x1C, [])
  | .dec_e => (.base 0x1D, [])
  | .ld_e_d8 n => (.base 0x1E, [n])
  | .rra => (.base 0x1F, [])
  | .jr_nz_e8 e => (.base 0x20, [e])
  | .ld_hl_d16 w => (.base 0x21, [loByte w, hiByte w])
  | .ld_atHLinc_a => (.base 0x22, [])
  | .inc_hl => (.base 0x23, [])
  | .inc_h => (.base 0x24, [])
  | .dec_h => (.base 0x25, [])
  | .ld_h_d8 n => (.base 0x26, [n])
  | .daa => (.base 0x27, [])
  | .jr_z_e8 e => (.base 0x28, [e])
  | .add_hl_hl => (.base 0x29, [])
  | .ld_a_atHLinc => (.base 0x2A, [])
  | .dec_hl => (.base 0x2B, [])
  | .inc_l => (.base 0x2C, [])
  | .dec_l => (.base 0x2D, [])
  | .ld_l_d8 n => (.base 0x2E, [n])
  | .cpl => (.base 0x2F, [])
  | .jr_nc_e8 e => (.base 0x30, [e])
  | .ld_sp_d16 w => (.base 0x31, [loByte w, hiByte w])
  | .ld_atHLdec_a => (.base 0x32, [])
  | .inc_sp => (.base 0x33, [])
  | .inc_atHL => (.base 0x34, [])
  | .dec_atHL => (.base 0x35, [])
  | .ld_atHL_d8 n => (.base 0x36, [n])
  | .scf => (.base 0x37, [])
  | .jr_c_e8 e => (.base 0x38, [e])
  | .add_hl_sp => (.base 0x39, [])
  | .ld_a_atHLdec => (.base 0x3A, [])
  | .dec_sp => (.base 0x3B, [])
  | .inc_a => (.base 0x3C, [])
  | .dec_a => (.base 0x3D, [])
  | .ld_a_d8 n => (.base 0x3E, [n])
  | .ccf => (.base 0x3F, [])
  | .ld_b_b => (.base 0x40, [])
  | .ld_b_c => (.base 0x41, [])
  | .ld_b_d => (.base 0x42, [])
  | .ld_b_e => (.base 0x43, [])
  | .ld_b_h => (.base 0x44, [])
  | .ld_b_l => (.base 0x45, [])
  | .ld_b_atHL => (.base 0x46, [])
  | .ld_b_a => (.base 0x47, [])
  | .ld_c_b => (.base 0x48, [])
  | .ld_c_c => (.base 0x49, [])
  | .ld_c_d => (.base 0x4A, [])
  | .ld_c_e => (.base 0x4B, [])
  | .ld_c_h => (.base 0x4C, [])
  | .ld_c_l => (.base 0x4D, [])
  | .ld_c_atHL => (.base 0x4E, [])
  | .ld_c_a => (.base 0x4F, [])
  | .ld_d_b => (.base 0x50, [])
  | .ld_d_c => (.base 0x51, [])
  | .ld_d_d => (.base 0x52, [])
  | .ld_d_e => (.base 0x53, [])
  | .ld_d_h => (.base 0x54, [])
  | .ld_d_l => (.base 0x55, [])
  | .ld_d_atHL => (.base 0x56, [])
  | .ld_d_a => (.base 0x57, [])
  | .ld_e_b => (.base 0x58, [])
  | .ld_e_c => (.base 0x59, [])
  | .ld_e_d => (.base 0x5A, [])
  | .ld_e_e => (.base 0x5B, [])
  | .ld_e_h => (.base 0x5C, [])
  | .ld_e_l => (.base 0x5D, [])
  | .ld_e_atHL => (.base 0x5E, [])
  | .ld_e_a => (.base 0x5F, [])
  | .ld_h_b => (.base 0x60, [])
  | .ld_h_c => (.base 0x61, [])
  | .ld_h_d => (.base 0x62, [])
  | .ld_h_e => (.base 0x63, [])
  | .ld_h_h => (.base 0x64, [])
  | .ld_h_l => (.base 0x65, [])
  | .ld_h_atHL => (.base 0x66, [])
  | .ld_h_a => (.base 0x67, [])
  | .ld_l_b => (.base 0x68, [])
  | .ld_l_c => (.base 0x69, [])
  | .ld_l_d => (.base 0x6A, [])
  | .ld_l_e => (.base 0x6B, [])
  | .ld_l_h => (.base 0x6C, [])
  | .ld_l_l => (.base 0x6D, [])
  | .ld_l_atHL => (.base 0x6E, [])
  | .ld_l_a => (.base 0x6F, [])
  | .ld_atHL_b => (.base 0x70, [])
  | .ld_atHL_c => (.base 0x71, [])
  | .ld_atHL_d => (.base 0x72, [])
  | .ld_atHL_e => (.base 0x73, [])
  | .ld_atHL_h => (.base 0x74, [])
  | .ld_atHL_l => (.base 0x75, [])
  | .halt => (.base 0x76, [])
  | .ld_atHL_a => (.base 0x77, [])
  | .ld_a_b => (.base 0x78, [])
  | .ld_a_c => (.base 0x79, [])
  | .ld_a_d => (.base 0x7A, [])
  | .ld_a_e => (.base 0x7B, [])
  | .ld_a_h => (.base 0x7C, [])
  | .ld_a_l => (.base 0x7D, [])
  | .ld_a_atHL => (.base 0x7E, [])
  | .ld_a_a => (.base 0x7F, [])
  | .add_a_b => (.base 0x80, [])
  | .add_a_c => (.base 0x81, [])
  | .add_a_d => (.base 0x82, [])
  | .add_a_e => (.base 0x83, [])
  | .add_a_h => (.base 0x84, [])
  | .add_a_l => (.base 0x85, [])
  | .add_a_atHL => (.base 0x86, [])
  | .add_a_a => (.base 0x87, [])
  | .adc_a_b => (.base 0x88, [])
  | .adc_a_c => (.base 0x89, [])
  | .adc_a_d => (.base 0x8A, [])
  | .adc_a_e => (.base 0x8B, [])
  | .adc_a_h => (.base 0x8C, [])
  | .adc_a_l => (.base 0x8D, [])
  | .adc_a_atHL => (.base 0x8E, [])
  | .adc_a_a => (.base 0x8F, [])
  | .sub_b => (.base 0x90, [])
  | .sub_c => (.base 0x91, [])
  | .sub_d => (.base 0x92, [])
  | .sub_e => (.base 0x93, [])
  | .sub_h => (.base 0x94, [])
  | .sub_l => (.base 0x95, [])
  | .sub_atHL => (.base 0x96, [])
  | .sub_a => (.base 0x97, [])
  | .sbc_a_b => (.base 0x98, [])
  | .sbc_a_c => (.base 0x99, [])
  | .sbc_a_d => (.base 0x9A, [])
  | .sbc_a_e => (.base 0x9B, [])
  | .sbc_a_h => (.base 0x9C, [])
  | .sbc_a_l => (.base 0x9D, [])
  | .sbc_a_atHL => (.base 0x9E, [])
  | .sbc_a_a => (.base 0x9F, [])
  | .and_b => (.base 0xA0, [])
  | .and_c => (.base 0xA1, [])
  | .and_d => (.base 0xA2, [])
  | .and_e => (.base 0xA3, [])
  | .and_h => (.base 0xA4, [])
  | .and_l => (.base 0xA5, [])
  | .and_atHL => (.base 0xA6, [])
  | .and_a => (.base 0xA7, [])
  | .xor_b => (.base 0xA8, [])
  | .xor_c => (.base 0xA9, [])
  | .xor_d => (.base 0xAA, [])
  | .xor_e => (.base 0xAB, [])
  | .xor_h => (.base 0xAC, [])
  | .xor_l => (.base 0xAD, [])
  | .xor_atHL => (.base 0xAE, [])
  | .xor_a => (.base 0xAF, [])
  | .or_b => (.base 0xB0, [])
  | .or_c => (.base 0xB1, [])
  | .or_d => (.base 0xB2, [])
  | .or_e => (.base 0xB3, [])
  | .or_h => (.base 0xB4, [])
  | .or_l => (.base 0xB5, [])
  | .or_atHL => (.base 0xB6, [])
  | .or_a => (.base 0xB7, [])
  | .cp_b => (.base 0xB8, [])
  | .cp_c => (.base 0xB9, [])
  | .cp_d => (.base 0xBA, [])
  | .cp_e => (.base 0xBB, [])
  | .cp_h => (.base 0xBC, [])
  | .cp_l => (.base 0xBD, [])
  | .cp_atHL => (.base 0xBE, [])
  | .cp_a => (.base 0xBF, [])
  | .ret_nz => (.base 0xC0, [])
  | .pop_bc => (.base 0xC1, [])
  | .jp_nz_a16 a => (.base 0xC2, [loByte a, hiByte a])
  | .jp_a16 a => (.base 0xC3, [loByte a, hiByte a])
  | .call_nz_a16 a => (.base 0xC4, [loByte a, hiByte a])
  | .push_bc => (.base 0xC5, [])
  | .add_a_d8 n => (.base 0xC6, [n])
  | .rst_00h => (.base 0xC7, [])
  | .ret_z => (.base 0xC8, [])
  | .ret => (.base 0xC9, [])
  | .jp_z_a16 a => (.base 0xCA, [loByte a, hiByte a])
  | .prefixCb key => (.ext key, [])
  | .call_z_a16 a => (.base 0xCC, [loByte a, hiByte a])
  | .call_a16 a => (.base 0xCD, [loByte a, hiByte a])
  | .adc_a_d8 n => (.base 0xCE, [n])
  | .rst_08h => (.base 0xCF, [])
  | .ret_nc => (.base 0xD0, [])
  | .pop_de => (.base 0xD1, [])
  | .jp_nc_a16 a => (.base 0xD2, [loByte a, hiByte a])
  | .illegal b => (.base b, [])
  | .call_nc_a16 a => (.base 0xD4, [loByte a, hiByte a])
  | .push_de => (.base 0xD5, [])
  | .sub_d8 n => (.base 0xD6, [n])
  | .rst_10h => (.base 0xD7, [])
  | .ret_c => (.base 0xD8, [])
  | .reti => (.base 0xD9, [])
  | .jp_c_a16 a => (.base 0xDA, [loByte a, hiByte a])
  | .call_c_a16 a => (.base 0xDC, [loByte a, hiByte a])
  | .sbc_a_d8 n => (.base 0xDE, [n])
  | .rst_18h => (.base 0xDF, [])
  | .ldh_atA8_a n => (.base 0xE0, [n])
  | .pop_hl => (.base 0xE1, [])
  | .ld_atC_a => (.base 0xE2, [])
  | .push_hl => (.base 0xE5, [])
  | .and_d8 n => (.base 0xE6, [n])
  | .rst_20h => (.base 0xE7, [])
  | .add_sp_e8 e => (.base 0xE8, [e])
  | .jp_hl => (.base 0xE9, [])
  | .ld_atA16_a a => (.base 0xEA, [loByte a, hiByte a])
  | .xor_d8 n => (.base 0xEE, [n])
  | .rst_28h => (.base 0xEF, [])
  | .ldh_a_atA8 n => (.base 0xF0, [n])
  | .pop_af => (.base 0xF1, [])
  | .ld_a_atC => (.base 0xF2, [])
  | .di => (.base 0xF3, [])
  | .push_af => (.base 0xF5, [])
  | .or_d8 n => (.base 0xF6, [n])
  | .rst_30h => (.base 0xF7, [])
  | .ld_hl_spE8 e => (.base 0xF8, [e])
  | .ld_sp_hl => (.base 0xF9, [])
  | .ld_a_atA16 a => (.base 0xFA, [loByte a, hiByte a])
  | .ei => (.base 0xFB, [])
  | .cp_d8 n => (.base 0xFE, [n])
  | .rst_38h => (.base 0xFF, [])
  | .rlc_b => (.ext 0x00, [])
  | .rlc_c => (.ext 0x01, [])
  | .rlc_d => (.ext 0x02, [])
  | .rlc_e => (.ext 0x03, [])
  | .rlc_h => (.ext 0x04, [])
  | .rlc_l => (.ext 0x05, [])
  | .rlc_atHL => (.ext 0x06, [])
  | .rlc_a => (.ext 0x07, [])
  | .rrc_b => (.ext 0x08, [])
  | .rrc_c => (.ext 0x09, [])
  | .rrc_d => (.ext 0x0A, [])
  | .rrc_e => (.ext 0x0B, [])
  | .rrc_h => (.ext 0x0C, [])
  | .rrc_l => (.ext 0x0D, [])
  | .rrc_atHL => (.ext 0x0E, [])
  | .rrc_a => (.ext 0x0F, [])
  | .rl_b => (.ext 0x10, [])
  | .rl_c => (.ext 0x11, [])
  | .rl_d => (.ext 0x12, [])
  | .rl_e => (.ext 0x13, [])
  | .rl_h => (.ext 0x14, [])
  | .rl_l => (.ext 0x15, [])
  | .rl_atHL => (.ext 0x16, [])
  | .rl_a => (.ext 0x17, [])
  | .rr_b => (.ext 0x18, [])
  | .rr_c => (.ext 0x19, [])
  | .rr_d => (.ext 0x1A, [])
  | .rr_e => (.ext 0x1B, [])
  | .rr_h => (.ext 0x1C, [])
  | .rr_l => (.ext 0x1D, [])
  | .rr_atHL => (.ext 0x1E, [])
  | .rr_a => (.ext 0x1F, [])
  | .sla_b => (.ext 0x20, [])
  | .sla_c => (.ext 0x21, [])
  | .sla_d => (.ext 0x22, [])
  | .sla_e => (.ext 0x23, [])
  | .sla_h => (.ext 0x24, [])
  | .sla_l => (.ext 0x25, [])
  | .sla_atHL => (.ext 0x26, [])
  | .sla_a => (.ext 0x27, [])
  | .sra_b => (.ext 0x28, [])
  | .sra_c => (.ext 0x29, [])
  | .sra_d => (.ext 0x2A, [])
  | .sra_e => (.ext 0x2B, [])
  | .sra_h => (.ext 0x2C, [])
  | .sra_l => (.ext 0x2D, [])
  | .sra_atHL => (.ext 0x2E, [])
  | .sra_a => (.ext 0x2F, [])
  | .swap_b => (.ext 0x30, [])
  | .swap_c => (.ext 0x31, [])
  | .swap_d => (.ext 0x32, [])
  | .swap_e => (.ext 0x33, [])
  | .swap_h => (.ext 0x34, [])
  | .swap_l => (.ext 0x35, [])
  | .swap_atHL => (.ext 0x36, [])
  | .swap_a => (.ext 0x37, [])
  | .srl_b => (.ext 0x38, [])
  | .srl_c => (.ext 0x39, [])
  | .srl_d => (.ext 0x3A, [])
  | .srl_e => (.ext 0x3B, [])
  | .srl_h => (.ext 0x3C, [])
  | .srl_l => (.ext 0x3D, [])
  | .srl_atHL => (.ext 0x3E, [])
  | .srl_a => (.ext 0x3F, [])
  | .bit_0_b => (.ext 0x40, [])
  | .bit_0_c => (.ext 0x41, [])
  | .bit_0_d => (.ext 0x42, [])
  | .bit_0_e => (.ext 0x43, [])
  | .bit_0_h => (.ext 0x44, [])
  | .bit_0_l => (.ext 0x45, [])
  | .bit_0_atHL => (.ext 0x46, [])
  | .bit_0_a => (.ext 0x47, [])
  | .bit_1_b => (.ext 0x48, [])
  | .bit_1_c => (.ext 0x49, [])
  | .bit_1_d => (.ext 0x4A, [])
  | .bit_1_e => (.ext 0x4B, [])
  | .bit_1_h => (.ext 0x4C, [])
  | .bit_1_l => (.ext 0x4D, [])
  | .bit_1_atHL => (.ext 0x4E, [])
  | .bit_1_a => (.ext 0x4F, [])
  | .bit_2_b => (.ext 0x50, [])
  | .bit_2_c => (.ext 0x51, [])
  | .bit_2_d => (.ext 0x52, [])
  | .bit_2_e => (.ext 0x53, [])
  | .bit_2_h => (.ext 0x54, [])
  | .bit_2_l => (.ext 0x55, [])
  | .bit_2_atHL => (.ext 0x56, [])
  | .bit_2_a => (.ext 0x57, [])
  | .bit_3_b => (.ext 0x58, [])
  | .bit_3_c => (.ext 0x59, [])
  | .bit_3_d => (.ext 0x5A, [])
  | .bit_3_e => (.ext 0x5B, [])
  | .bit_3_h => (.ext 0x5C, [])
  | .bit_3_l => (.ext 0x5D, [])
  | .bit_3_atHL => (.ext 0x5E, [])
  | .bit_3_a => (.ext 0x5F, [])
  | .bit_4_b => (.ext 0x60, [])
  | .bit_4_c => (.ext 0x61, [])
  | .bit_4_d => (.ext 0x62, [])
  | .bit_4_e => (.ext 0x63, [])
  | .bit_4_h => (.ext 0x64, [])
  | .bit_4_l => (.ext 0x65, [])
  | .bit_4_atHL => (.ext 0x66, [])
  | .bit_4_a => (.ext 0x67, [])
  | .bit_5_b => (.ext 0x68, [])
  | .bit_5_c => (.ext 0x69, [])
  | .bit_5_d => (.ext 0x6A, [])
  | .bit_5_e => (.ext 0x6B, [])
  | .bit_5_h => (.ext 0x6C, [])
  | .bit_5_l => (.ext 0x6D, [])
  | .bit_5_atHL => (.ext 0x6E, [])
  | .bit_5_a => (.ext 0x6F, [])
  | .bit_6_b => (.ext 0x70, [])
  | .bit_6_c => (.ext 0x71, [])
  | .bit_6_d => (.ext 0x72, [])
  | .bit_6_e => (.ext 0x73, [])
  | .bit_6_h => (.ext 0x74, [])
  | .bit_6_l => (.ext 0x75, [])
  | .bit_6_atHL => (.ext 0x76, [])
  | .bit_6_a => (.ext 0x77, [])
  | .bit_7_b => (.ext 0x78, [])
  | .bit_7_c => (.ext 0x79, [])
  | .bit_7_d => (.ext 0x7A, [])
  | .bit_7_e => (.ext 0x7B, [])
  | .bit_7_h => (.ext 0x7C, [])
  | .bit_7_l => (.ext 0x7D, [])
  | .bit_7_atHL => (.ext 0x7E, [])
  | .bit_7_a => (.ext 0x7F, [])
  | .res_0_b => (.ext 0x80, [])
  | .res_0_c => (.ext 0x81, [])
  | .res_0_d => (.ext 0x82, [])
  | .res_0_e => (.ext 0x83, [])
  | .res_0_h => (.ext 0x84, [])
  | .res_0_l => (.ext 0x85, [])
  | .res_0_atHL => (.ext 0x86, [])
  | .res_0_a => (.ext 0x87, [])
  | .res_1_b => (.ext 0x88, [])
  | .res_1_c => (.ext 0x89, [])
  | .res_1_d => (.ext 0x8A, [])
  | .res_1_e => (.ext 0x8B, [])
  | .res_1_h => (.ext 0x8C, [])
  | .res_1_l => (.ext 0x8D, [])
  | .res_1_atHL => (.ext 0x8E, [])
  | .res_1_a => (.ext 0x8F, [])
  | .res_2_b => (.ext 0x90, [])
  | .res_2_c => (.ext 0x91, [])
  | .res_2_d => (.ext 0x92, [])
  | .res_2_e => (.ext 0x93, [])
  | .res_2_h => (.ext 0x94, [])
  | .res_2_l => (.ext 0x95, [])
  | .res_2_atHL => (.ext 0x96, [])
  | .res_2_a => (.ext 0x97, [])
  | .res_3_b => (.ext 0x98, [])
  | .res_3_c => (.ext 0x99, [])
  | .res_3_d => (.ext 0x9A, [])
  | .res_3_e => (.ext 0x9B, [])
  | .res_3_h => (.ext 0x9C, [])
  | .res_3_l => (.ext 0x9D, [])
  | .res_3_atHL => (.ext 0x9E, [])
  | .res_3_a => (.ext 0x9F, [])
  | .res_4_b => (.ext 0xA0, [])
  | .res_4_c => (.ext 0xA1, [])
  | .res_4_d => (.ext 0xA2, [])
  | .res_4_e => (.ext 0xA3, [])
  | .res_4_h => (.ext 0xA4, [])
  | .res_4_l => (.ext 0xA5, [])
  | .res_4_atHL => (.ext 0xA6, [])
  | .res_4_a => (.ext 0xA7, [])
  | .res_5_b => (.ext 0xA8, [])
  | .res_5_c => (.ext 0xA9, [])
  | .res_5_d => (.ext 0xAA, [])
  | .res_5_e => (.ext 0xAB, [])
  | .res_5_h => (.ext 0xAC, [])
  | .res_5_l => (.ext 0xAD, [])
  | .res_5_atHL => (.ext 0xAE, [])
  | .res_5_a => (.ext 0xAF, [])
  | .res_6_b => (.ext 0xB0, [])
  | .res_6_c => (.ext 0xB1, [])
  | .res_6_d => (.ext 0xB2, [])
  | .res_6_e => (.ext 0xB3, [])
  | .res_6_h => (.ext 0xB4, [])
  | .res_6_l => (.ext 0xB5, [])
  | .res_6_atHL => (.ext 0xB6, [])
  | .res_6_a => (.ext 0xB7, [])
  | .res_7_b => (.ext 0xB8, [])
  | .res_7_c => (.ext 0xB9, [])
  | .res_7_d => (.ext 0xBA, [])
  | .res_7_e => (.ext 0xBB, [])
  | .res_7_h => (.ext 0xBC, [])
  | .res_7_l => (.ext 0xBD, [])
  | .res_7_atHL => (.ext 0xBE, [])
  | .res_7_a => (.ext 0xBF, [])
  | .set_0_b => (.ext 0xC0, [])
  | .set_0_c => (.ext 0xC1, [])
  | .set_0_d => (.ext 0xC2, [])
  | .set_0_e => (.ext 0xC3, [])
  | .set_0_h => (.ext 0xC4, [])
  | .set_0_l => (.ext 0xC5, [])
  | .set_0_atHL => (.ext 0xC6, [])
  | .set_0_a => (.ext 0xC7, [])
  | .set_1_b => (.ext 0xC8, [])
  | .set_1_c => (.ext 0xC9, [])
  | .set_1_d => (.ext 0xCA, [])
  | .set_1_e => (.ext 0xCB, [])
  | .set_1_h => (.ext 0xCC, [])
  | .set_1_l => (.ext 0xCD, [])
  | .set_1_atHL => (.ext 0xCE, [])
  | .set_1_a => (.ext 0xCF, [])
  | .set_2_b => (.ext 0xD0, [])
  | .set_2_c => (.ext 0xD1, [])
  | .set_2_d => (.ext 0xD2, [])
  | .set_2_e => (.ext 0xD3, [])
  | .set_2_h => (.ext 0xD4, [])
  | .set_2_l => (.ext 0xD5, [])
  | .set_2_atHL => (.ext 0xD6, [])
  | .set_2_a => (.ext 0xD7, [])
  | .set_3_b => (.ext 0xD8, [])
  | .set_3_c => (.ext 0xD9, [])
  | .set_3_d => (.ext 0xDA, [])
  | .set_3_e => (.ext 0xDB, [])
  | .set_3_h => (.ext 0xDC, [])
  | .set_3_l => (.ext 0xDD, [])
  | .set_3_atHL => (.ext 0xDE, [])
  | .set_3_a => (.ext 0xDF, [])
  | .set_4_b => (.ext 0xE0, [])
  | .set_4_c => (.ext 0xE1, [])
  | .set_4_d => (.ext 0xE2, [])
  | .set_4_e => (.ext 0xE3, [])
  | .set_4_h => (.ext 0xE4, [])
  | .set_4_l => (.ext 0xE5, [])
  | .set_4_atHL => (.ext 0xE6, [])
  | .set_4_a => (.ext 0xE7, [])
  | .set_5_b => (.ext 0xE8, [])
  | .set_5_c => (.ext 0xE9, [])
  | .set_5_d => (.ext 0xEA, [])
  | .set_5_e => (.ext 0xEB, [])
  | .set_5_h => (.ext 0xEC, [])
  | .set_5_l => (.ext 0xED, [])
  | .set_5_atHL => (.ext 0xEE, [])
  | .set_5_a => (.ext 0xEF, [])
  | .set_6_b => (.ext 0xF0, [])
  | .set_6_c => (.ext 0xF1, [])
  | .set_6_d => (.ext 0xF2, [])
  | .set_6_e => (.ext 0xF3, [])
  | .set_6_h => (.ext 0xF4, [])
  | .set_6_l => (.ext 0xF5, [])
  | .set_6_atHL => (.ext 0xF6, [])
  | .set_6_a => (.ext 0xF7, [])
  | .set_7_b => (.ext 0xF8, [])
  | .set_7_c => (.ext 0xF9, [])
  | .set_7_d => (.ext 0xFA, [])
  | .set_7_e => (.ext 0xFB, [])
  | .set_7_h => (.ext 0xFC, [])
  | .set_7_l => (.ext 0xFD, [])
  | .set_7_atHL => (.ext 0xFE, [])
  | .set_7_a => (.ext 0xFF, [])

/-- The key an instruction's descriptor stands at. -/
def Instr.key (i : Instr) : OpKey := i.parts.1

/-- The opcode bytes of a key: one byte, or the prefix and one byte (R80). -/
def OpKey.opcodeBytes : OpKey → List Byte
  | .base b => [b]
  | .ext k => [0xCB, k]

/-- The encoder: the bytes of an instruction, lowest address first. -/
def encode (i : Instr) : List Byte := i.key.opcodeBytes ++ i.parts.2

/-! ## The opcode table's numbering -/

/-- The bytes, lowest address first, of the `nbits` bits `w` of a row of spec/opcode_table.json, up to the longest
instruction (three bytes).  A base row numbers its first byte bits 7 to 0.  An extended row is the 16-bit number
`0xCB00 | op2`, whose HIGH byte is the byte at the lower address, the prefix (R101; log 16). -/
def tableBytes (nbits w : Nat) : List Byte :=
  if nbits = 16 ∧ w / 256 % 256 = 0xCB then [0xCB, BitVec.ofNat 8 w, 0]
  else [BitVec.ofNat 8 w, BitVec.ofNat 8 (w / 256), BitVec.ofNat 8 (w / 65536)]

/-- The instruction the decoder reads from a row's bits, the bits above `nbits` being 0, with every descriptor
present (the default of R7). -/
def decodeTableWord (nbits w : Nat) : Option Instr :=
  match decode {} (tableBytes nbits (w % 2 ^ nbits)) with
  | .ok (i, _) => some i
  | .error _ => none

end Sys2Proof
end

