-- ==== Sys2Proof/Machine/State.lean ====
section
/-!
DEFINITION. The state of the machine, all plain data: the core's registers, counters and memory
(spec/10_state.md, spec/20_memory.md R50), the host-side control state around it (R32; spec/60_exceptions.md R410 to
R412), and the launch parameters (spec/00_scope.md R7).  The state after reset stands at the end.
-/

namespace Sys2Proof.Machine

/-! ## The outcomes that are not a next state -/

/-- Faults: there is none.  The engine never fails, and no condition stops a step (R118, R400); the type is empty, so
no meaning can raise one (log 8). -/
inductive Fault
  deriving DecidableEq, Repr

/-- Refusals. -/
inductive Refusal where
  /-- Raised by an arm of `exec` whose instruction has no meaning yet; safe, since nothing is claimed of it.  No arm
  raises it in this model. -/
  | notModelled (mnemonic : String)
  deriving DecidableEq, Repr

/-! ## Memory -/

/-- The byte array of R50 as the list of its bytes that differ from what an unlisted address reads as. -/
abbrev Memory := List Host.Cell

/-! ## The host side -/

/-- The two external-facing states of the engine (R32). -/
inductive RunMode where
  | running
  | awaitingDebugStep
  deriving DecidableEq, Repr

/-- The names a script subscribes to (R410). -/
inductive EventName where
  | beforeExecute
  | afterExecute
  | unimplementedOpcode
  deriving DecidableEq, Repr

/-- The debug view of a descriptor (R113, R410). -/
structure DebugView where
  opcode : Byte
  mnemonic : String
  cycles : Nat
  length : Nat
  deriving DecidableEq, Repr

/-- A published event with its payload (R410). -/
inductive Event where
  | beforeExecute (view : DebugView)
  | afterExecute (view : DebugView)
  | unimplementedOpcode (raw : Byte)
  deriving DecidableEq, Repr

/-- What `cpuState()` returns (R415). -/
structure CpuState where
  stackPointer : Word
  programCounter : Word
  a : Byte
  b : Byte
  c : Byte
  d : Byte
  e : Byte
  f : Byte
  h : Byte
  l : Byte
  af : Word
  bc : Word
  de : Word
  hl : Word
  flags : String
  deriving DecidableEq, Repr

/-- One thing a script does inside a callback (R411), or the error that ends the callback (R413).  `writeByte` takes
an address and a value in range only (D28). -/
inductive ScriptAction where
  | writeByte (address : Word) (value : Byte)
  | breakpoint
  | dumpMemory
  | cpuState
  | raiseError
  deriving DecidableEq, Repr

/-- One thing the bridge has handed over or logged: an event (R410), a memory snapshot (R69), a `cpuState()` result
(R415), or the error of a failing callback (R413). -/
inductive HostRecord where
  | event (e : Event)
  | memory (m : Memory)
  | cpuState (c : CpuState)
  | errorLogged
  deriving DecidableEq, Repr

/-- An attached Debug Bridge (R410 to R413). -/
structure Bridge where
  /-- One entry per subscribed callback, in registration order: the event it is subscribed to (R410). -/
  subscriptions : List EventName
  /-- What the callbacks to come will do, one entry per invocation; past its end a callback does nothing.  The model's
  own input tape: a script may do anything R411 allows (log 10). -/
  behaviours : List (List ScriptAction)
  /-- What has been handed over so far, oldest first (log 10). -/
  record : List HostRecord
  deriving DecidableEq, Repr

/-! ## The state -/

/-- The state of the machine. -/
structure State where
  /-- The eight 8-bit registers (R20); F holds the flags in bits 7 to 4 (R24). -/
  a : Byte
  f : Byte
  b : Byte
  c : Byte
  d : Byte
  e : Byte
  h : Byte
  l : Byte
  /-- The stack pointer (R28). -/
  sp : Word
  /-- The program counter (R27). -/
  pc : Word
  /-- The cycle counter, unbounded (R29). -/
  cycles : Nat
  /-- The interrupt-master-enable bit (R30). -/
  ime : Bool
  /-- The halted bit (R31). -/
  halted : Bool
  /-- The memory unit (R50). -/
  mem : Memory
  /-- The run mode (R32). -/
  runMode : RunMode
  /-- The single-slot Step signal of the breakpoint handshake (R412). -/
  stepSignal : Bool
  /-- The single-slot Continue signal of the breakpoint handshake (R412). -/
  continueSignal : Bool
  /-- The Debug Bridge, if one is attached (R7, R113). -/
  bridge : Option Bridge
  /-- The launch parameters a step reads (R7, R34); no step changes them. -/
  config : Config
  deriving DecidableEq, Repr

/-- What a step answers in this model. -/
abbrev Result := Host.Outcome State Fault Refusal

/-- What one step does, in the order in which the step tests it (R405): the distinct outcomes `halted`,
`stalled(key)` (R401, R460) and the execution of a descriptor. -/
inductive StepReport where
  | halted
  | stalled (key : Byte)
  | executed (key : OpKey)
  deriving DecidableEq, Repr

/-- The state after reset (R452): the values the spec gives, and zero where it gives none (log 3, log 4, log 5). -/
def State.reset : State where
  a := 0
  f := 0
  b := 0
  c := 0
  d := 0
  e := 0
  h := 0
  l := 0
  sp := 0
  pc := 0
  cycles := 0
  ime := false
  halted := false
  mem := []
  runMode := .running
  stepSignal := false
  continueSignal := false
  bridge := none
  config := {}

end Sys2Proof.Machine
end

