-- ==== Sys2Proof/Machine/Ops.lean ====
section
/-!
DEFINITION. The named operations over memory and registers (spec/20_memory.md R50 to R59; spec/10_state.md R20 to R28),
and the stack operations (spec/40_engine.md R130, R131).  Taking an exception has no operation here: the core raises
none, saves nothing and returns from nothing (spec/60_exceptions.md R400, R403, R404).
-/

namespace Sys2Proof.Machine

/-! ## The byte array -/

/-- What an address that is not listed reads as (log 5). -/
def unlistedByte : Byte := 0x00

/-- The byte at an address. -/
def Memory.lookup : Memory → Nat → Byte
  | [], _ => unlistedByte
  | (k, v) :: m, a => if k = a then v else Memory.lookup m a

/-- The memory with nothing listed at an address. -/
def Memory.erase (m : Memory) (a : Nat) : Memory := m.filter fun cell => cell.1 != a

/-- The memory with a cell put before the first higher address. -/
def Memory.place : Memory → Nat → Byte → Memory
  | [], a, v => [(a, v)]
  | (k, x) :: m, a, v => if a < k then (a, v) :: (k, x) :: m else (k, x) :: Memory.place m a v

/-- `readByte` (R51). -/
def Memory.read (m : Memory) (a : Word) : Byte := Memory.lookup m a.toNat

/-- A write of one byte (R53).  Writing what an unlisted address reads as removes the cell. -/
def Memory.write (m : Memory) (a : Word) (v : Byte) : Memory :=
  if v = unlistedByte then Memory.erase m a.toNat else Memory.place (Memory.erase m a.toNat) a.toNat v

/-- `writeBytes` (R53): in list order, each at the next address modulo 0x10000 (R54). -/
def Memory.writeBytes (m : Memory) (a : Word) : List Byte → Memory
  | [] => m
  | v :: bytes => Memory.writeBytes (m.write a v) (a + 1) bytes

/-- The canonical form: addresses strictly rising and below 0x10000, no cell equal to what an unlisted address reads
as. -/
abbrev Memory.wf (m : Memory) : Prop :=
  m.Pairwise (fun x y => x.1 < y.1) ∧ ∀ x ∈ m, x.1 < 0x10000 ∧ x.2 ≠ unlistedByte

/-- `MemRead(a, 1)` (R51). -/
def State.readByte (s : State) (a : Word) : Byte := s.mem.read a

/-- `MemRead(a, 2)` (R52): little-endian, the second address modulo 0x10000. -/
def State.readWord (s : State) (a : Word) : Word := joinBytes (s.readByte (a + 1)) (s.readByte a)

/-- `MemWrite(a, 1, v)` (R53). -/
def State.writeByte (a : Word) (v : Byte) (s : State) : State := { s with mem := s.mem.write a v }

/-- `MemWrite(a, 2, w)` (R53): the low byte, then the high byte at the next address. -/
def State.writeWord (a w : Word) (s : State) : State :=
  (s.writeByte a (loByte w)).writeByte (a + 1) (hiByte w)

/-! ## Registers -/

/-- The 8-bit register a field names (R82). -/
def State.getR (s : State) : Reg8 → Byte
  | .b => s.b | .c => s.c | .d => s.d | .e => s.e | .h => s.h | .l => s.l | .a => s.a

/-- `reg8[r] <- v` (R9). -/
def State.setR (r : Reg8) (v : Byte) (s : State) : State :=
  match r with
  | .b => { s with b := v }
  | .c => { s with c := v }
  | .d => { s with d := v }
  | .e => { s with e := v }
  | .h => { s with h := v }
  | .l => { s with l := v }
  | .a => { s with a := v }

/-- F as it reads: bits 3 to 0 are always 0 (R25). -/
def State.readF (s : State) : Byte := s.f &&& 0xF0

/-- A write of F: bits 3 to 0 become 0 (R25). -/
def State.writeF (v : Byte) (s : State) : State := { s with f := v &&& 0xF0 }

/-- `asWord` of a pair (R21). -/
def State.getPair (s : State) : Pair → Word
  | .af => joinBytes s.a s.readF
  | .bc => joinBytes s.b s.c
  | .de => joinBytes s.d s.e
  | .hl => joinBytes s.h s.l

/-- `setWord` of a pair (R21, R25). -/
def State.setPair (p : Pair) (w : Word) (s : State) : State :=
  match p with
  | .af => { s with a := hiByte w }.writeF (loByte w)
  | .bc => { s with b := hiByte w, c := loByte w }
  | .de => { s with d := hiByte w, e := loByte w }
  | .hl => { s with h := hiByte w, l := loByte w }

/-- HL, the address of the (HL) forms. -/
def State.hl (s : State) : Word := s.getPair .hl

/-- The value of `reg16[p]` (R83). -/
def State.getReg16 (s : State) : Reg16 → Word
  | .bc => s.getPair .bc
  | .de => s.getPair .de
  | .hl => s.getPair .hl
  | .sp => s.sp

/-- A write of `reg16[p]` (R83). -/
def State.setReg16 (r : Reg16) (w : Word) (s : State) : State :=
  match r with
  | .bc => s.setPair .bc w
  | .de => s.setPair .de w
  | .hl => s.setPair .hl w
  | .sp => { s with sp := w }

/-! ## The stack -/

/-- `push16` (R130): the high byte at SP - 1, then the low byte at SP - 2. -/
def State.push16 (w : Word) (s : State) : State :=
  let s1 := { s with sp := s.sp - 1 }
  let s2 := s1.writeByte s1.sp (hiByte w)
  let s3 := { s2 with sp := s2.sp - 1 }
  s3.writeByte s3.sp (loByte w)

/-- The word `pop16` returns (R131). -/
def State.top16 (s : State) : Word := s.readWord s.sp

/-- The effect of `pop16` on SP (R131). -/
def State.drop16 (s : State) : State := { s with sp := s.sp + 2 }

end Sys2Proof.Machine
end

