-- ==== Sys2Proof/Machine/Flags.lean ====
section
/-!
DEFINITION. The flags (spec/10_state.md R24, R25; spec/40_engine.md R123) and every flag computation the spec gives
(spec/40_engine.md R124 to R129, R132, R136 to R141), each with the result it goes with.
-/

namespace Sys2Proof.Machine

/-! ## The flag register -/

/-- Z = F[7] (R24). -/
def State.flagZ (s : State) : Bool := s.readF.getLsbD 7

/-- N = F[6] (R24). -/
def State.flagN (s : State) : Bool := s.readF.getLsbD 6

/-- Hf = F[5] (R24). -/
def State.flagH (s : State) : Bool := s.readF.getLsbD 5

/-- Cf = F[4] (R24). -/
def State.flagC (s : State) : Bool := s.readF.getLsbD 4

/-- A flag as a byte, 0 or 1. -/
def flagBit (b : Bool) : Byte := if b then 1 else 0

/-- The byte `z<<7 | n<<6 | h<<5 | c<<4` (R123). -/
def packFlags (z n h c : Bool) : Byte :=
  flagBit z <<< 7 ||| flagBit n <<< 6 ||| flagBit h <<< 5 ||| flagBit c <<< 4

/-- `setF` (R123): every flag write goes through it. -/
def State.setF (z n h c : Bool) (s : State) : State := s.writeF (packFlags z n h c)

/-- A byte with the four flags an operation computes beside it. -/
structure Flagged where
  res : Byte
  z : Bool
  n : Bool
  h : Bool
  c : Bool
  deriving DecidableEq, Repr

/-- The write of an operation's four flags. -/
def State.setFlags (r : Flagged) (s : State) : State := s.setF r.z r.n r.h r.c

/-! ## 8-bit arithmetic and logic -/

/-- `add8` (R124). -/
def add8 (a b : Byte) (cin : Bool) : Flagged :=
  let res := a + b + flagBit cin
  { res := res
    z := res == 0
    n := false
    h := decide ((a &&& 0x0F).toNat + (b &&& 0x0F).toNat + cin.toNat > 0x0F)
    c := decide (a.toNat + b.toNat + cin.toNat > 0xFF) }

/-- `sub8` (R125). -/
def sub8 (a b : Byte) (cin : Bool) : Flagged :=
  let res := a - b - flagBit cin
  { res := res
    z := res == 0
    n := true
    h := decide (((a &&& 0x0F).toNat : Int) - ((b &&& 0x0F).toNat : Int) - (cin.toNat : Int) < 0)
    c := decide ((a.toNat : Int) - (b.toNat : Int) - (cin.toNat : Int) < 0) }

/-- `and8` (R126). -/
def and8 (a b : Byte) : Flagged :=
  let res := a &&& b
  { res := res, z := res == 0, n := false, h := true, c := false }

/-- `xor8` (R127). -/
def xor8 (a b : Byte) : Flagged :=
  let res := a ^^^ b
  { res := res, z := res == 0, n := false, h := false, c := false }

/-- `or8` (R128). -/
def or8 (a b : Byte) : Flagged :=
  let res := a ||| b
  { res := res, z := res == 0, n := false, h := false, c := false }

/-- The operation of the ALU group's field `y` on A and an operand, with the carry in (R93, R124 to R128). -/
def aluCompute (op : AluOp) (a b : Byte) (cin : Bool) : Flagged :=
  match op with
  | .add => add8 a b false
  | .adc => add8 a b cin
  | .sub => sub8 a b false
  | .sbc => sub8 a b cin
  | .and => and8 a b
  | .xor => xor8 a b
  | .or => or8 a b
  | .cp => sub8 a b false

/-- `inc8` (R129); `c` is the carry flag, which it leaves as it is. -/
def inc8 (v : Byte) (c : Bool) : Flagged :=
  let res := v + 1
  { res := res, z := res == 0, n := false, h := decide ((v &&& 0x0F).toNat + 1 > 0x0F), c := c }

/-- `dec8` (R132); `c` is the carry flag, which it leaves as it is. -/
def dec8 (v : Byte) (c : Bool) : Flagged :=
  let res := v - 1
  { res := res, z := res == 0, n := true, h := decide (((v &&& 0x0F).toNat : Int) - 1 < 0), c := c }

/-- `daa` (R141), on A and the flags it reads. -/
def daa (a : Byte) (n h c : Bool) : Flagged :=
  if n then
    let a1 := if c then a - 0x60 else a
    let a2 := if h then a1 - 0x06 else a1
    { res := a2, z := a2 == 0, n := n, h := false, c := c }
  else
    let high := c || decide (a.toNat > 0x99)
    let a1 := if high then a + 0x60 else a
    let a2 := if h || decide ((a1 &&& 0x0F).toNat > 0x09) then a1 + 0x06 else a1
    { res := a2, z := a2 == 0, n := n, h := false, c := high }

/-! ## Rotates, shifts and bits -/

/-- The result of a rotate or shift function and its carry out (R137, R138); `cin` is the carry flag. -/
def shiftCompute (op : ShiftOp) (v : Byte) (cin : Bool) : Byte × Bool :=
  match op with
  | .rlc => (v <<< 1 ||| flagBit (v.getLsbD 7), v.getLsbD 7)
  | .rrc => (v >>> 1 ||| flagBit (v.getLsbD 0) <<< 7, v.getLsbD 0)
  | .rl => (v <<< 1 ||| flagBit cin, v.getLsbD 7)
  | .rr => (v >>> 1 ||| flagBit cin <<< 7, v.getLsbD 0)
  | .sla => (v <<< 1, v.getLsbD 7)
  | .sra => (v >>> 1 ||| v &&& 0x80, v.getLsbD 0)
  | .swap => (v <<< 4 ||| v >>> 4, false)
  | .srl => (v >>> 1, v.getLsbD 0)

/-- A rotate or shift of the 0xCB group with its flags: Z from the result, N = H = 0 (R137, R138). -/
def shiftFlagged (op : ShiftOp) (v : Byte) (cin : Bool) : Flagged :=
  let r := shiftCompute op v cin
  { res := r.1, z := r.1 == 0, n := false, h := false, c := r.2 }

/-- `bit` (R136): Z is set iff the bit is 0; `c` is the carry flag, which it leaves as it is. -/
def testBit (n : Fin 8) (v : Byte) (c : Bool) : Flagged :=
  { res := v, z := !v.getLsbD n, n := false, h := true, c := c }

/-- RES: `v & ~(1 << b)` (R272). -/
def resetBit (n : Fin 8) (v : Byte) : Byte := v &&& ~~~((1 : Byte) <<< n.val)

/-- SET: `v | (1 << b)` (R274). -/
def assertBit (n : Fin 8) (v : Byte) : Byte := v ||| (1 : Byte) <<< n.val

/-! ## 16-bit helpers -/

/-- The result of `add16` (R139). -/
def add16 (a b : Word) : Word := a + b

/-- The half-carry of `add16`: the carry out of bit 11 (R139). -/
def add16Half (a b : Word) : Bool := decide ((a &&& 0x0FFF).toNat + (b &&& 0x0FFF).toNat > 0x0FFF)

/-- The carry of `add16`: the carry out of bit 15 (R139). -/
def add16Carry (a b : Word) : Bool := decide (a.toNat + b.toNat > 0xFFFF)

/-- The result of `addsp` (R140). -/
def addSpResult (sp : Word) (u : Byte) : Word := sp + sext16 u

/-- The half-carry of `addsp`, from the unsigned operand byte (R140). -/
def addSpHalf (sp : Word) (u : Byte) : Bool := decide ((sp &&& 0x000F).toNat + (u &&& 0x0F).toNat > 0x0F)

/-- The carry of `addsp`, from the unsigned operand byte (R140). -/
def addSpCarry (sp : Word) (u : Byte) : Bool := decide ((sp &&& 0x00FF).toNat + u.toNat > 0xFF)

end Sys2Proof.Machine
end

