-- ==== Sys2Proof/Machine/Operands.lean ====
section
/-!
DEFINITION. Every operand form (spec/30_encoding.md R82, R85 to R89; spec/40_engine.md R120 to R122; the ALU operand
forms of spec/43_alu8.md).
-/

namespace Sys2Proof.Machine

/-- The operand forms of the eight ALU operations: a register, the byte at HL, or an immediate byte. -/
inductive Source where
  | reg (r : Reg8)
  | atHL
  | imm (n : Byte)
  deriving DecidableEq, Repr

/-- The value of an operand (`read8`, R120; `d8`, R86). -/
def State.source (s : State) : Source → Byte
  | .reg r => s.getR r
  | .atHL => s.readByte s.hl
  | .imm n => n

/-- `cond` (R122). -/
def State.cond (s : State) : Cond → Bool
  | .nz => !s.flagZ
  | .z => s.flagZ
  | .nc => !s.flagC
  | .c => s.flagC

/-- The address `0xFF00 | n` of LDH and LD (C) (R89). -/
def highPage (n : Byte) : Word := 0xFF00 ||| zext16 n

end Sys2Proof.Machine
end

