-- ==== Sys2Proof/Machine/Descriptor.lean ====
section
/-!
DEFINITION. The descriptors of the two opcode tables (spec/30_encoding.md R92, R97; spec/70_reset_and_hazards.md
R456): length, self-management, cycle cost, mnemonic; and what the engine does after a descriptor's action
(spec/40_engine.md R115, R116).
-/

namespace Sys2Proof.Machine

/-! ## Length and self-management -/

/-- The base opcodes of length 2 (R92). -/
def twoByteOpcodes : List Byte :=
  [0x06, 0x0E, 0x10, 0x16, 0x18, 0x1E, 0x20, 0x26, 0x28, 0x2E, 0x30, 0x36, 0x38, 0x3E, 0xC6, 0xCE,
   0xD6, 0xDE, 0xE0, 0xE6, 0xE8, 0xEE, 0xF0, 0xF6, 0xF8, 0xFE]

/-- The base opcodes of length 3 (R92). -/
def threeByteOpcodes : List Byte :=
  [0x01, 0x08, 0x11, 0x21, 0x31, 0xC2, 0xC3, 0xC4, 0xCA, 0xCC, 0xCD, 0xD2, 0xD4, 0xDA, 0xDC, 0xEA,
   0xFA]

/-- The self-managed base opcodes (R97). -/
def selfManagedOpcodes : List Byte :=
  [0x18, 0x20, 0x28, 0x30, 0x38, 0xC0, 0xC2, 0xC3, 0xC4, 0xC7, 0xC8, 0xC9, 0xCA, 0xCC, 0xCD, 0xCF,
   0xD0, 0xD2, 0xD4, 0xD7, 0xD8, 0xD9, 0xDA, 0xDC, 0xDF, 0xE7, 0xE9, 0xEF, 0xF7, 0xFF]

/-- `encodedLength` (R97): the length of R92 for a base descriptor, 1 for an extended one, whose prefix has already
been consumed. -/
def encodedLength : OpKey → Nat
  | .base b => if twoByteOpcodes.contains b then 2 else if threeByteOpcodes.contains b then 3 else 1
  | .ext _ => 1

/-- `pcSelfManaged` (R97). -/
def selfManaged : OpKey → Bool
  | .base b => selfManagedOpcodes.contains b
  | .ext _ => false

/-! ## Cycle costs -/

/-- The default cost of each base opcode, row by row of R93 (R456); 0 where there is no descriptor. -/
def baseCycles : List Nat :=
  [4, 12, 8, 8, 4, 4, 8, 4, 20, 8, 8, 8, 4, 4, 8, 4]
  ++ [4, 12, 8, 8, 4, 4, 8, 4, 12, 8, 8, 8, 4, 4, 8, 4]
  ++ [12, 12, 8, 8, 4, 4, 8, 4, 12, 8, 8, 8, 4, 4, 8, 4]
  ++ [12, 12, 8, 8, 12, 12, 12, 4, 12, 8, 8, 8, 4, 4, 8, 4]
  ++ [4, 4, 4, 4, 4, 4, 8, 4, 4, 4, 4, 4, 4, 4, 8, 4]
  ++ [4, 4, 4, 4, 4, 4, 8, 4, 4, 4, 4, 4, 4, 4, 8, 4]
  ++ [4, 4, 4, 4, 4, 4, 8, 4, 4, 4, 4, 4, 4, 4, 8, 4]
  ++ [8, 8, 8, 8, 8, 8, 4, 8, 4, 4, 4, 4, 4, 4, 8, 4]
  ++ [4, 4, 4, 4, 4, 4, 8, 4, 4, 4, 4, 4, 4, 4, 8, 4]
  ++ [4, 4, 4, 4, 4, 4, 8, 4, 4, 4, 4, 4, 4, 4, 8, 4]
  ++ [4, 4, 4, 4, 4, 4, 8, 4, 4, 4, 4, 4, 4, 4, 8, 4]
  ++ [4, 4, 4, 4, 4, 4, 8, 4, 4, 4, 4, 4, 4, 4, 8, 4]
  ++ [20, 12, 16, 16, 24, 16, 8, 16, 20, 16, 16, 0, 24, 24, 8, 16]
  ++ [20, 12, 16, 0, 24, 16, 8, 16, 20, 16, 16, 0, 24, 0, 8, 16]
  ++ [12, 12, 8, 0, 0, 16, 8, 16, 16, 4, 16, 0, 0, 0, 8, 16]
  ++ [12, 12, 8, 4, 0, 16, 8, 16, 12, 8, 16, 4, 0, 0, 8, 16]

/-- The default `CYCLE_COST` (R456). -/
def defaultCycles : OpKey → Nat
  | .base b => baseCycles.getD b.toNat 0
  | .ext k => if k &&& 0x07 = 0x06 then (if k >>> 6 = 0x01 then 12 else 16) else 8

/-- `CYCLE_COST` (R7, R116): one fixed number per descriptor. -/
def cost (c : Config) (k : OpKey) : Nat := (c.cycleCost.lookup k).getD (defaultCycles k)

/-! ## Mnemonics -/

/-! The rows of R93, as the spec spells them (R99). -/
def baseNames0 : List String :=
  ["NOP", "LD BC,d16", "LD (BC),A", "INC BC", "INC B", "DEC B", "LD B,d8", "RLCA",
   "LD (a16),SP", "ADD HL,BC", "LD A,(BC)", "DEC BC", "INC C", "DEC C", "LD C,d8", "RRCA"]
def baseNames1 : List String :=
  ["STOP", "LD DE,d16", "LD (DE),A", "INC DE", "INC D", "DEC D", "LD D,d8", "RLA",
   "JR e8", "ADD HL,DE", "LD A,(DE)", "DEC DE", "INC E", "DEC E", "LD E,d8", "RRA"]
def baseNames2 : List String :=
  ["JR NZ,e8", "LD HL,d16", "LD (HL+),A", "INC HL", "INC H", "DEC H", "LD H,d8", "DAA",
   "JR Z,e8", "ADD HL,HL", "LD A,(HL+)", "DEC HL", "INC L", "DEC L", "LD L,d8", "CPL"]
def baseNames3 : List String :=
  ["JR NC,e8", "LD SP,d16", "LD (HL-),A", "INC SP", "INC (HL)", "DEC (HL)", "LD (HL),d8", "SCF",
   "JR C,e8", "ADD HL,SP", "LD A,(HL-)", "DEC SP", "INC A", "DEC A", "LD A,d8", "CCF"]
def baseNames4 : List String :=
  ["LD B,B", "LD B,C", "LD B,D", "LD B,E", "LD B,H", "LD B,L", "LD B,(HL)", "LD B,A",
   "LD C,B", "LD C,C", "LD C,D", "LD C,E", "LD C,H", "LD C,L", "LD C,(HL)", "LD C,A"]
def baseNames5 : List String :=
  ["LD D,B", "LD D,C", "LD D,D", "LD D,E", "LD D,H", "LD D,L", "LD D,(HL)", "LD D,A",
   "LD E,B", "LD E,C", "LD E,D", "LD E,E", "LD E,H", "LD E,L", "LD E,(HL)", "LD E,A"]
def baseNames6 : List String :=
  ["LD H,B", "LD H,C", "LD H,D", "LD H,E", "LD H,H", "LD H,L", "LD H,(HL)", "LD H,A",
   "LD L,B", "LD L,C", "LD L,D", "LD L,E", "LD L,H", "LD L,L", "LD L,(HL)", "LD L,A"]
def baseNames7 : List String :=
  ["LD (HL),B", "LD (HL),C", "LD (HL),D", "LD (HL),E", "LD (HL),H", "LD (HL),L", "HALT", "LD (HL),A",
   "LD A,B", "LD A,C", "LD A,D", "LD A,E", "LD A,H", "LD A,L", "LD A,(HL)", "LD A,A"]
def baseNames8 : List String :=
  ["ADD A,B", "ADD A,C", "ADD A,D", "ADD A,E", "ADD A,H", "ADD A,L", "ADD A,(HL)", "ADD A,A",
   "ADC A,B", "ADC A,C", "ADC A,D", "ADC A,E", "ADC A,H", "ADC A,L", "ADC A,(HL)", "ADC A,A"]
def baseNames9 : List String :=
  ["SUB B", "SUB C", "SUB D", "SUB E", "SUB H", "SUB L", "SUB (HL)", "SUB A",
   "SBC A,B", "SBC A,C", "SBC A,D", "SBC A,E", "SBC A,H", "SBC A,L", "SBC A,(HL)", "SBC A,A"]
def baseNamesA : List String :=
  ["AND B", "AND C", "AND D", "AND E", "AND H", "AND L", "AND (HL)", "AND A",
   "XOR B", "XOR C", "XOR D", "XOR E", "XOR H", "XOR L", "XOR (HL)", "XOR A"]
def baseNamesB : List String :=
  ["OR B", "OR C", "OR D", "OR E", "OR H", "OR L", "OR (HL)", "OR A",
   "CP B", "CP C", "CP D", "CP E", "CP H", "CP L", "CP (HL)", "CP A"]
def baseNamesC : List String :=
  ["RET NZ", "POP BC", "JP NZ,a16", "JP a16", "CALL NZ,a16", "PUSH BC", "ADD A,d8", "RST 00h",
   "RET Z", "RET", "JP Z,a16", "PREFIX CB", "CALL Z,a16", "CALL a16", "ADC A,d8", "RST 08h"]
def baseNamesD : List String :=
  ["RET NC", "POP DE", "JP NC,a16", "(illegal)", "CALL NC,a16", "PUSH DE", "SUB d8", "RST 10h",
   "RET C", "RETI", "JP C,a16", "(illegal)", "CALL C,a16", "(illegal)", "SBC A,d8", "RST 18h"]
def baseNamesE : List String :=
  ["LDH (a8),A", "POP HL", "LD (C),A", "(illegal)", "(illegal)", "PUSH HL", "AND d8", "RST 20h",
   "ADD SP,e8", "JP HL", "LD (a16),A", "(illegal)", "(illegal)", "(illegal)", "XOR d8", "RST 28h"]
def baseNamesF : List String :=
  ["LDH A,(a8)", "POP AF", "LD A,(C)", "DI", "(illegal)", "PUSH AF", "OR d8", "RST 30h",
   "LD HL,SP+e8", "LD SP,HL", "LD A,(a16)", "EI", "(illegal)", "(illegal)", "CP d8", "RST 38h"]

/-! The rows of R94, as the spec spells them (R99). -/
def extNames0 : List String :=
  ["RLC B", "RLC C", "RLC D", "RLC E", "RLC H", "RLC L", "RLC (HL)", "RLC A",
   "RRC B", "RRC C", "RRC D", "RRC E", "RRC H", "RRC L", "RRC (HL)", "RRC A"]
def extNames1 : List String :=
  ["RL B", "RL C", "RL D", "RL E", "RL H", "RL L", "RL (HL)", "RL A",
   "RR B", "RR C", "RR D", "RR E", "RR H", "RR L", "RR (HL)", "RR A"]
def extNames2 : List String :=
  ["SLA B", "SLA C", "SLA D", "SLA E", "SLA H", "SLA L", "SLA (HL)", "SLA A",
   "SRA B", "SRA C", "SRA D", "SRA E", "SRA H", "SRA L", "SRA (HL)", "SRA A"]
def extNames3 : List String :=
  ["SWAP B", "SWAP C", "SWAP D", "SWAP E", "SWAP H", "SWAP L", "SWAP (HL)", "SWAP A",
   "SRL B", "SRL C", "SRL D", "SRL E", "SRL H", "SRL L", "SRL (HL)", "SRL A"]
def extNames4 : List String :=
  ["BIT 0,B", "BIT 0,C", "BIT 0,D", "BIT 0,E", "BIT 0,H", "BIT 0,L", "BIT 0,(HL)", "BIT 0,A",
   "BIT 1,B", "BIT 1,C", "BIT 1,D", "BIT 1,E", "BIT 1,H", "BIT 1,L", "BIT 1,(HL)", "BIT 1,A"]
def extNames5 : List String :=
  ["BIT 2,B", "BIT 2,C", "BIT 2,D", "BIT 2,E", "BIT 2,H", "BIT 2,L", "BIT 2,(HL)", "BIT 2,A",
   "BIT 3,B", "BIT 3,C", "BIT 3,D", "BIT 3,E", "BIT 3,H", "BIT 3,L", "BIT 3,(HL)", "BIT 3,A"]
def extNames6 : List String :=
  ["BIT 4,B", "BIT 4,C", "BIT 4,D", "BIT 4,E", "BIT 4,H", "BIT 4,L", "BIT 4,(HL)", "BIT 4,A",
   "BIT 5,B", "BIT 5,C", "BIT 5,D", "BIT 5,E", "BIT 5,H", "BIT 5,L", "BIT 5,(HL)", "BIT 5,A"]
def extNames7 : List String :=
  ["BIT 6,B", "BIT 6,C", "BIT 6,D", "BIT 6,E", "BIT 6,H", "BIT 6,L", "BIT 6,(HL)", "BIT 6,A",
   "BIT 7,B", "BIT 7,C", "BIT 7,D", "BIT 7,E", "BIT 7,H", "BIT 7,L", "BIT 7,(HL)", "BIT 7,A"]
def extNames8 : List String :=
  ["RES 0,B", "RES 0,C", "RES 0,D", "RES 0,E", "RES 0,H", "RES 0,L", "RES 0,(HL)", "RES 0,A",
   "RES 1,B", "RES 1,C", "RES 1,D", "RES 1,E", "RES 1,H", "RES 1,L", "RES 1,(HL)", "RES 1,A"]
def extNames9 : List String :=
  ["RES 2,B", "RES 2,C", "RES 2,D", "RES 2,E", "RES 2,H", "RES 2,L", "RES 2,(HL)", "RES 2,A",
   "RES 3,B", "RES 3,C", "RES 3,D", "RES 3,E", "RES 3,H", "RES 3,L", "RES 3,(HL)", "RES 3,A"]
def extNamesA : List String :=
  ["RES 4,B", "RES 4,C", "RES 4,D", "RES 4,E", "RES 4,H", "RES 4,L", "RES 4,(HL)", "RES 4,A",
   "RES 5,B", "RES 5,C", "RES 5,D", "RES 5,E", "RES 5,H", "RES 5,L", "RES 5,(HL)", "RES 5,A"]
def extNamesB : List String :=
  ["RES 6,B", "RES 6,C", "RES 6,D", "RES 6,E", "RES 6,H", "RES 6,L", "RES 6,(HL)", "RES 6,A",
   "RES 7,B", "RES 7,C", "RES 7,D", "RES 7,E", "RES 7,H", "RES 7,L", "RES 7,(HL)", "RES 7,A"]
def extNamesC : List String :=
  ["SET 0,B", "SET 0,C", "SET 0,D", "SET 0,E", "SET 0,H", "SET 0,L", "SET 0,(HL)", "SET 0,A",
   "SET 1,B", "SET 1,C", "SET 1,D", "SET 1,E", "SET 1,H", "SET 1,L", "SET 1,(HL)", "SET 1,A"]
def extNamesD : List String :=
  ["SET 2,B", "SET 2,C", "SET 2,D", "SET 2,E", "SET 2,H", "SET 2,L", "SET 2,(HL)", "SET 2,A",
   "SET 3,B", "SET 3,C", "SET 3,D", "SET 3,E", "SET 3,H", "SET 3,L", "SET 3,(HL)", "SET 3,A"]
def extNamesE : List String :=
  ["SET 4,B", "SET 4,C", "SET 4,D", "SET 4,E", "SET 4,H", "SET 4,L", "SET 4,(HL)", "SET 4,A",
   "SET 5,B", "SET 5,C", "SET 5,D", "SET 5,E", "SET 5,H", "SET 5,L", "SET 5,(HL)", "SET 5,A"]
def extNamesF : List String :=
  ["SET 6,B", "SET 6,C", "SET 6,D", "SET 6,E", "SET 6,H", "SET 6,L", "SET 6,(HL)", "SET 6,A",
   "SET 7,B", "SET 7,C", "SET 7,D", "SET 7,E", "SET 7,H", "SET 7,L", "SET 7,(HL)", "SET 7,A"]

/-- The base mnemonics: row = high nibble, column = low nibble (R93). -/
def baseNames : List (List String) :=
  [baseNames0, baseNames1, baseNames2, baseNames3, baseNames4, baseNames5, baseNames6, baseNames7,
   baseNames8, baseNames9, baseNamesA, baseNamesB, baseNamesC, baseNamesD, baseNamesE, baseNamesF]

/-- The extended mnemonics: row = high nibble of the second byte, column = its low nibble (R94). -/
def extNames : List (List String) :=
  [extNames0, extNames1, extNames2, extNames3, extNames4, extNames5, extNames6, extNames7,
   extNames8, extNames9, extNamesA, extNamesB, extNamesC, extNamesD, extNamesE, extNamesF]

/-- The `mnemonic` of a descriptor (R97, R99). -/
def mnemonicOf : OpKey → String
  | .base b => (baseNames.getD (b.toNat / 16) []).getD (b.toNat % 16) ""
  | .ext k => (extNames.getD (k.toNat / 16) []).getD (k.toNat % 16) ""

/-- The debug view of a descriptor (R410): its own opcode byte, its cost and its `encodedLength`. -/
def debugView (c : Config) (k : OpKey) : DebugView :=
  { opcode := k.byte, mnemonic := mnemonicOf k, cycles := cost c k, length := encodedLength k }

/-! ## After the action -/

/-- The PC advance of R115: a descriptor that is not self-managed adds its length, modulo 0x10000. -/
def State.advance (k : OpKey) (s : State) : State :=
  if selfManaged k then s else { s with pc := s.pc + BitVec.ofNat 16 (encodedLength k) }

/-- The cycle count of R116. -/
def State.charge (k : OpKey) (s : State) : State := { s with cycles := s.cycles + cost s.config k }

/-- What follows an action: the PC advance, then the cycle count (R110). -/
def State.retire (k : OpKey) (s : State) : State := (s.advance k).charge k

/-- The execution of a base descriptor at a state whose PC is `op_addr`: its action, then `retire` (R110, R114). -/
def runBase (b : Byte) (action : State → State) (s : State) : Result := .next ((action s).retire (.base b))

/-- The execution of an extended descriptor at a state whose PC is `op_addr`, the address of the byte after the
prefix (R110, R114). -/
def runExt (k : Byte) (action : State → State) (s : State) : Result := .next ((action s).retire (.ext k))

end Sys2Proof.Machine
end

