-- ==== Sys2Proof/Machine/Alu16.lean ====
section
/-!
DEFINITION. The 16-bit arithmetic (spec/44_alu16.md R240 to R243): the actions, then one meaning per instruction.
-/

namespace Sys2Proof.Machine

/-- ADD HL,rr (R240): Z is kept. -/
def addHL (r : Reg16) (s : State) : State :=
  let w := s.getReg16 r
  (s.setPair .hl (add16 s.hl w)).setF s.flagZ false (add16Half s.hl w) (add16Carry s.hl w)

/-- INC rr (R241). -/
def incPair (r : Reg16) (s : State) : State := s.setReg16 r (s.getReg16 r + 1)

/-- DEC rr (R242). -/
def decPair (r : Reg16) (s : State) : State := s.setReg16 r (s.getReg16 r - 1)

/-- ADD SP,e8 (R243). -/
def addSP (e : Byte) (s : State) : State :=
  { s with sp := addSpResult s.sp e }.setF false false (addSpHalf s.sp e) (addSpCarry s.sp e)

/-! ## Meanings -/

/-- INC BC (R241). -/
def exec_inc_bc (s : State) : Result := runBase 0x03 (incPair .bc) s

/-- ADD HL,BC (R240). -/
def exec_add_hl_bc (s : State) : Result := runBase 0x09 (addHL .bc) s

/-- DEC BC (R242). -/
def exec_dec_bc (s : State) : Result := runBase 0x0B (decPair .bc) s

/-- INC DE (R241). -/
def exec_inc_de (s : State) : Result := runBase 0x13 (incPair .de) s

/-- ADD HL,DE (R240). -/
def exec_add_hl_de (s : State) : Result := runBase 0x19 (addHL .de) s

/-- DEC DE (R242). -/
def exec_dec_de (s : State) : Result := runBase 0x1B (decPair .de) s

/-- INC HL (R241). -/
def exec_inc_hl (s : State) : Result := runBase 0x23 (incPair .hl) s

/-- ADD HL,HL (R240). -/
def exec_add_hl_hl (s : State) : Result := runBase 0x29 (addHL .hl) s

/-- DEC HL (R242). -/
def exec_dec_hl (s : State) : Result := runBase 0x2B (decPair .hl) s

/-- INC SP (R241). -/
def exec_inc_sp (s : State) : Result := runBase 0x33 (incPair .sp) s

/-- ADD HL,SP (R240). -/
def exec_add_hl_sp (s : State) : Result := runBase 0x39 (addHL .sp) s

/-- DEC SP (R242). -/
def exec_dec_sp (s : State) : Result := runBase 0x3B (decPair .sp) s

/-- ADD SP,e8 (R243). -/
def exec_add_sp_e8 (e : Byte) (s : State) : Result := runBase 0xE8 (addSP e) s

end Sys2Proof.Machine
end

