-- ==== Sys2Proof/Machine/Alu8.lean ====
section
/-!
DEFINITION. The 8-bit arithmetic and logic (spec/43_alu8.md R200 to R231): the actions, then one meaning per
instruction.
-/

namespace Sys2Proof.Machine

/-- ADD, ADC, SUB, SBC, AND, XOR, OR and CP (R200 to R223): the result goes to A, but for CP, which writes the flags
only. -/
def alu (op : AluOp) (src : Source) (s : State) : State :=
  let r := aluCompute op s.a (s.source src) s.flagC
  if op = .cp then s.setFlags r else (s.setR .a r.res).setFlags r

/-- INC r (R224). -/
def incReg (r : Reg8) (s : State) : State :=
  let x := inc8 (s.getR r) s.flagC
  (s.setR r x.res).setFlags x

/-- INC (HL) (R225): one read and one write. -/
def incHL (s : State) : State :=
  let x := inc8 (s.readByte s.hl) s.flagC
  (s.writeByte s.hl x.res).setFlags x

/-- DEC r (R226). -/
def decReg (r : Reg8) (s : State) : State :=
  let x := dec8 (s.getR r) s.flagC
  (s.setR r x.res).setFlags x

/-- DEC (HL) (R227): one read and one write. -/
def decHL (s : State) : State :=
  let x := dec8 (s.readByte s.hl) s.flagC
  (s.writeByte s.hl x.res).setFlags x

/-- DAA (R228). -/
def decimalAdjust (s : State) : State :=
  let x := daa s.a s.flagN s.flagH s.flagC
  (s.setR .a x.res).setFlags x

/-- CPL (R229): Z and the carry are kept. -/
def complementA (s : State) : State := (s.setR .a (~~~s.a)).setF s.flagZ true true s.flagC

/-- SCF (R230). -/
def setCarry (s : State) : State := s.setF s.flagZ false false true

/-- CCF (R231). -/
def complementCarry (s : State) : State := s.setF s.flagZ false false (!s.flagC)

/-! ## Meanings -/

/-- INC B (R224). -/
def exec_inc_b (s : State) : Result := runBase 0x04 (incReg .b) s

/-- DEC B (R226). -/
def exec_dec_b (s : State) : Result := runBase 0x05 (decReg .b) s

/-- INC C (R224). -/
def exec_inc_c (s : State) : Result := runBase 0x0C (incReg .c) s

/-- DEC C (R226). -/
def exec_dec_c (s : State) : Result := runBase 0x0D (decReg .c) s

/-- INC D (R224). -/
def exec_inc_d (s : State) : Result := runBase 0x14 (incReg .d) s

/-- DEC D (R226). -/
def exec_dec_d (s : State) : Result := runBase 0x15 (decReg .d) s

/-- INC E (R224). -/
def exec_inc_e (s : State) : Result := runBase 0x1C (incReg .e) s

/-- DEC E (R226). -/
def exec_dec_e (s : State) : Result := runBase 0x1D (decReg .e) s

/-- INC H (R224). -/
def exec_inc_h (s : State) : Result := runBase 0x24 (incReg .h) s

/-- DEC H (R226). -/
def exec_dec_h (s : State) : Result := runBase 0x25 (decReg .h) s

/-- DAA (R228). -/
def exec_daa (s : State) : Result := runBase 0x27 decimalAdjust s

/-- INC L (R224). -/
def exec_inc_l (s : State) : Result := runBase 0x2C (incReg .l) s

/-- DEC L (R226). -/
def exec_dec_l (s : State) : Result := runBase 0x2D (decReg .l) s

/-- CPL (R229). -/
def exec_cpl (s : State) : Result := runBase 0x2F complementA s

/-- INC (HL) (R225). -/
def exec_inc_atHL (s : State) : Result := runBase 0x34 incHL s

/-- DEC (HL) (R227). -/
def exec_dec_atHL (s : State) : Result := runBase 0x35 decHL s

/-- SCF (R230). -/
def exec_scf (s : State) : Result := runBase 0x37 setCarry s

/-- INC A (R224). -/
def exec_inc_a (s : State) : Result := runBase 0x3C (incReg .a) s

/-- DEC A (R226). -/
def exec_dec_a (s : State) : Result := runBase 0x3D (decReg .a) s

/-- CCF (R231). -/
def exec_ccf (s : State) : Result := runBase 0x3F complementCarry s

/-- ADD A,B (R200). -/
def exec_add_a_b (s : State) : Result := runBase 0x80 (alu .add (.reg .b)) s

/-- ADD A,C (R200). -/
def exec_add_a_c (s : State) : Result := runBase 0x81 (alu .add (.reg .c)) s

/-- ADD A,D (R200). -/
def exec_add_a_d (s : State) : Result := runBase 0x82 (alu .add (.reg .d)) s

/-- ADD A,E (R200). -/
def exec_add_a_e (s : State) : Result := runBase 0x83 (alu .add (.reg .e)) s

/-- ADD A,H (R200). -/
def exec_add_a_h (s : State) : Result := runBase 0x84 (alu .add (.reg .h)) s

/-- ADD A,L (R200). -/
def exec_add_a_l (s : State) : Result := runBase 0x85 (alu .add (.reg .l)) s

/-- ADD A,(HL) (R201). -/
def exec_add_a_atHL (s : State) : Result := runBase 0x86 (alu .add .atHL) s

/-- ADD A,A (R200). -/
def exec_add_a_a (s : State) : Result := runBase 0x87 (alu .add (.reg .a)) s

/-- ADC A,B (R203). -/
def exec_adc_a_b (s : State) : Result := runBase 0x88 (alu .adc (.reg .b)) s

/-- ADC A,C (R203). -/
def exec_adc_a_c (s : State) : Result := runBase 0x89 (alu .adc (.reg .c)) s

/-- ADC A,D (R203). -/
def exec_adc_a_d (s : State) : Result := runBase 0x8A (alu .adc (.reg .d)) s

/-- ADC A,E (R203). -/
def exec_adc_a_e (s : State) : Result := runBase 0x8B (alu .adc (.reg .e)) s

/-- ADC A,H (R203). -/
def exec_adc_a_h (s : State) : Result := runBase 0x8C (alu .adc (.reg .h)) s

/-- ADC A,L (R203). -/
def exec_adc_a_l (s : State) : Result := runBase 0x8D (alu .adc (.reg .l)) s

/-- ADC A,(HL) (R204). -/
def exec_adc_a_atHL (s : State) : Result := runBase 0x8E (alu .adc .atHL) s

/-- ADC A,A (R203). -/
def exec_adc_a_a (s : State) : Result := runBase 0x8F (alu .adc (.reg .a)) s

/-- SUB B (R206). -/
def exec_sub_b (s : State) : Result := runBase 0x90 (alu .sub (.reg .b)) s

/-- SUB C (R206). -/
def exec_sub_c (s : State) : Result := runBase 0x91 (alu .sub (.reg .c)) s

/-- SUB D (R206). -/
def exec_sub_d (s : State) : Result := runBase 0x92 (alu .sub (.reg .d)) s

/-- SUB E (R206). -/
def exec_sub_e (s : State) : Result := runBase 0x93 (alu .sub (.reg .e)) s

/-- SUB H (R206). -/
def exec_sub_h (s : State) : Result := runBase 0x94 (alu .sub (.reg .h)) s

/-- SUB L (R206). -/
def exec_sub_l (s : State) : Result := runBase 0x95 (alu .sub (.reg .l)) s

/-- SUB (HL) (R207). -/
def exec_sub_atHL (s : State) : Result := runBase 0x96 (alu .sub .atHL) s

/-- SUB A (R206). -/
def exec_sub_a (s : State) : Result := runBase 0x97 (alu .sub (.reg .a)) s

/-- SBC A,B (R209). -/
def exec_sbc_a_b (s : State) : Result := runBase 0x98 (alu .sbc (.reg .b)) s

/-- SBC A,C (R209). -/
def exec_sbc_a_c (s : State) : Result := runBase 0x99 (alu .sbc (.reg .c)) s

/-- SBC A,D (R209). -/
def exec_sbc_a_d (s : State) : Result := runBase 0x9A (alu .sbc (.reg .d)) s

/-- SBC A,E (R209). -/
def exec_sbc_a_e (s : State) : Result := runBase 0x9B (alu .sbc (.reg .e)) s

/-- SBC A,H (R209). -/
def exec_sbc_a_h (s : State) : Result := runBase 0x9C (alu .sbc (.reg .h)) s

/-- SBC A,L (R209). -/
def exec_sbc_a_l (s : State) : Result := runBase 0x9D (alu .sbc (.reg .l)) s

/-- SBC A,(HL) (R210). -/
def exec_sbc_a_atHL (s : State) : Result := runBase 0x9E (alu .sbc .atHL) s

/-- SBC A,A (R209). -/
def exec_sbc_a_a (s : State) : Result := runBase 0x9F (alu .sbc (.reg .a)) s

/-- AND B (R212). -/
def exec_and_b (s : State) : Result := runBase 0xA0 (alu .and (.reg .b)) s

/-- AND C (R212). -/
def exec_and_c (s : State) : Result := runBase 0xA1 (alu .and (.reg .c)) s

/-- AND D (R212). -/
def exec_and_d (s : State) : Result := runBase 0xA2 (alu .and (.reg .d)) s

/-- AND E (R212). -/
def exec_and_e (s : State) : Result := runBase 0xA3 (alu .and (.reg .e)) s

/-- AND H (R212). -/
def exec_and_h (s : State) : Result := runBase 0xA4 (alu .and (.reg .h)) s

/-- AND L (R212). -/
def exec_and_l (s : State) : Result := runBase 0xA5 (alu .and (.reg .l)) s

/-- AND (HL) (R213). -/
def exec_and_atHL (s : State) : Result := runBase 0xA6 (alu .and .atHL) s

/-- AND A (R212). -/
def exec_and_a (s : State) : Result := runBase 0xA7 (alu .and (.reg .a)) s

/-- XOR B (R215). -/
def exec_xor_b (s : State) : Result := runBase 0xA8 (alu .xor (.reg .b)) s

/-- XOR C (R215). -/
def exec_xor_c (s : State) : Result := runBase 0xA9 (alu .xor (.reg .c)) s

/-- XOR D (R215). -/
def exec_xor_d (s : State) : Result := runBase 0xAA (alu .xor (.reg .d)) s

/-- XOR E (R215). -/
def exec_xor_e (s : State) : Result := runBase 0xAB (alu .xor (.reg .e)) s

/-- XOR H (R215). -/
def exec_xor_h (s : State) : Result := runBase 0xAC (alu .xor (.reg .h)) s

/-- XOR L (R215). -/
def exec_xor_l (s : State) : Result := runBase 0xAD (alu .xor (.reg .l)) s

/-- XOR (HL) (R216). -/
def exec_xor_atHL (s : State) : Result := runBase 0xAE (alu .xor .atHL) s

/-- XOR A (R215). -/
def exec_xor_a (s : State) : Result := runBase 0xAF (alu .xor (.reg .a)) s

/-- OR B (R218). -/
def exec_or_b (s : State) : Result := runBase 0xB0 (alu .or (.reg .b)) s

/-- OR C (R218). -/
def exec_or_c (s : State) : Result := runBase 0xB1 (alu .or (.reg .c)) s

/-- OR D (R218). -/
def exec_or_d (s : State) : Result := runBase 0xB2 (alu .or (.reg .d)) s

/-- OR E (R218). -/
def exec_or_e (s : State) : Result := runBase 0xB3 (alu .or (.reg .e)) s

/-- OR H (R218). -/
def exec_or_h (s : State) : Result := runBase 0xB4 (alu .or (.reg .h)) s

/-- OR L (R218). -/
def exec_or_l (s : State) : Result := runBase 0xB5 (alu .or (.reg .l)) s

/-- OR (HL) (R219). -/
def exec_or_atHL (s : State) : Result := runBase 0xB6 (alu .or .atHL) s

/-- OR A (R218). -/
def exec_or_a (s : State) : Result := runBase 0xB7 (alu .or (.reg .a)) s

/-- CP B (R221). -/
def exec_cp_b (s : State) : Result := runBase 0xB8 (alu .cp (.reg .b)) s

/-- CP C (R221). -/
def exec_cp_c (s : State) : Result := runBase 0xB9 (alu .cp (.reg .c)) s

/-- CP D (R221). -/
def exec_cp_d (s : State) : Result := runBase 0xBA (alu .cp (.reg .d)) s

/-- CP E (R221). -/
def exec_cp_e (s : State) : Result := runBase 0xBB (alu .cp (.reg .e)) s

/-- CP H (R221). -/
def exec_cp_h (s : State) : Result := runBase 0xBC (alu .cp (.reg .h)) s

/-- CP L (R221). -/
def exec_cp_l (s : State) : Result := runBase 0xBD (alu .cp (.reg .l)) s

/-- CP (HL) (R222). -/
def exec_cp_atHL (s : State) : Result := runBase 0xBE (alu .cp .atHL) s

/-- CP A (R221). -/
def exec_cp_a (s : State) : Result := runBase 0xBF (alu .cp (.reg .a)) s

/-- ADD A,d8 (R202). -/
def exec_add_a_d8 (n : Byte) (s : State) : Result := runBase 0xC6 (alu .add (.imm n)) s

/-- ADC A,d8 (R205). -/
def exec_adc_a_d8 (n : Byte) (s : State) : Result := runBase 0xCE (alu .adc (.imm n)) s

/-- SUB d8 (R208). -/
def exec_sub_d8 (n : Byte) (s : State) : Result := runBase 0xD6 (alu .sub (.imm n)) s

/-- SBC A,d8 (R211). -/
def exec_sbc_a_d8 (n : Byte) (s : State) : Result := runBase 0xDE (alu .sbc (.imm n)) s

/-- AND d8 (R214). -/
def exec_and_d8 (n : Byte) (s : State) : Result := runBase 0xE6 (alu .and (.imm n)) s

/-- XOR d8 (R217). -/
def exec_xor_d8 (n : Byte) (s : State) : Result := runBase 0xEE (alu .xor (.imm n)) s

/-- OR d8 (R220). -/
def exec_or_d8 (n : Byte) (s : State) : Result := runBase 0xF6 (alu .or (.imm n)) s

/-- CP d8 (R223). -/
def exec_cp_d8 (n : Byte) (s : State) : Result := runBase 0xFE (alu .cp (.imm n)) s

end Sys2Proof.Machine
end

