-- ==== Sys2Proof/Machine/Bit.lean ====
section
/-!
DEFINITION. Bit test, reset and set (spec/45_rotate_shift_bit.md R270 to R275): the actions, then one meaning per
instruction.
-/

namespace Sys2Proof.Machine

/-- BIT b,r (R270): the register is not written. -/
def testReg (n : Fin 8) (r : Reg8) (s : State) : State := s.setFlags (testBit n (s.getR r) s.flagC)

/-- BIT b,(HL) (R271): memory is read and not written. -/
def testHL (n : Fin 8) (s : State) : State := s.setFlags (testBit n (s.readByte s.hl) s.flagC)

/-- RES b,r (R272). -/
def clearReg (n : Fin 8) (r : Reg8) (s : State) : State := s.setR r (resetBit n (s.getR r))

/-- RES b,(HL) (R273). -/
def clearHL (n : Fin 8) (s : State) : State := s.writeByte s.hl (resetBit n (s.readByte s.hl))

/-- SET b,r (R274). -/
def assertReg (n : Fin 8) (r : Reg8) (s : State) : State := s.setR r (assertBit n (s.getR r))

/-- SET b,(HL) (R275). -/
def assertHL (n : Fin 8) (s : State) : State := s.writeByte s.hl (assertBit n (s.readByte s.hl))

/-! ## Meanings -/

/-- BIT 0,B (R270). -/
def exec_bit_0_b (s : State) : Result := runExt 0x40 (testReg 0 .b) s

/-- BIT 0,C (R270). -/
def exec_bit_0_c (s : State) : Result := runExt 0x41 (testReg 0 .c) s

/-- BIT 0,D (R270). -/
def exec_bit_0_d (s : State) : Result := runExt 0x42 (testReg 0 .d) s

/-- BIT 0,E (R270). -/
def exec_bit_0_e (s : State) : Result := runExt 0x43 (testReg 0 .e) s

/-- BIT 0,H (R270). -/
def exec_bit_0_h (s : State) : Result := runExt 0x44 (testReg 0 .h) s

/-- BIT 0,L (R270). -/
def exec_bit_0_l (s : State) : Result := runExt 0x45 (testReg 0 .l) s

/-- BIT 0,(HL) (R271). -/
def exec_bit_0_atHL (s : State) : Result := runExt 0x46 (testHL 0) s

/-- BIT 0,A (R270). -/
def exec_bit_0_a (s : State) : Result := runExt 0x47 (testReg 0 .a) s

/-- BIT 1,B (R270). -/
def exec_bit_1_b (s : State) : Result := runExt 0x48 (testReg 1 .b) s

/-- BIT 1,C (R270). -/
def exec_bit_1_c (s : State) : Result := runExt 0x49 (testReg 1 .c) s

/-- BIT 1,D (R270). -/
def exec_bit_1_d (s : State) : Result := runExt 0x4A (testReg 1 .d) s

/-- BIT 1,E (R270). -/
def exec_bit_1_e (s : State) : Result := runExt 0x4B (testReg 1 .e) s

/-- BIT 1,H (R270). -/
def exec_bit_1_h (s : State) : Result := runExt 0x4C (testReg 1 .h) s

/-- BIT 1,L (R270). -/
def exec_bit_1_l (s : State) : Result := runExt 0x4D (testReg 1 .l) s

/-- BIT 1,(HL) (R271). -/
def exec_bit_1_atHL (s : State) : Result := runExt 0x4E (testHL 1) s

/-- BIT 1,A (R270). -/
def exec_bit_1_a (s : State) : Result := runExt 0x4F (testReg 1 .a) s

/-- BIT 2,B (R270). -/
def exec_bit_2_b (s : State) : Result := runExt 0x50 (testReg 2 .b) s

/-- BIT 2,C (R270). -/
def exec_bit_2_c (s : State) : Result := runExt 0x51 (testReg 2 .c) s

/-- BIT 2,D (R270). -/
def exec_bit_2_d (s : State) : Result := runExt 0x52 (testReg 2 .d) s

/-- BIT 2,E (R270). -/
def exec_bit_2_e (s : State) : Result := runExt 0x53 (testReg 2 .e) s

/-- BIT 2,H (R270). -/
def exec_bit_2_h (s : State) : Result := runExt 0x54 (testReg 2 .h) s

/-- BIT 2,L (R270). -/
def exec_bit_2_l (s : State) : Result := runExt 0x55 (testReg 2 .l) s

/-- BIT 2,(HL) (R271). -/
def exec_bit_2_atHL (s : State) : Result := runExt 0x56 (testHL 2) s

/-- BIT 2,A (R270). -/
def exec_bit_2_a (s : State) : Result := runExt 0x57 (testReg 2 .a) s

/-- BIT 3,B (R270). -/
def exec_bit_3_b (s : State) : Result := runExt 0x58 (testReg 3 .b) s

/-- BIT 3,C (R270). -/
def exec_bit_3_c (s : State) : Result := runExt 0x59 (testReg 3 .c) s

/-- BIT 3,D (R270). -/
def exec_bit_3_d (s : State) : Result := runExt 0x5A (testReg 3 .d) s

/-- BIT 3,E (R270). -/
def exec_bit_3_e (s : State) : Result := runExt 0x5B (testReg 3 .e) s

/-- BIT 3,H (R270). -/
def exec_bit_3_h (s : State) : Result := runExt 0x5C (testReg 3 .h) s

/-- BIT 3,L (R270). -/
def exec_bit_3_l (s : State) : Result := runExt 0x5D (testReg 3 .l) s

/-- BIT 3,(HL) (R271). -/
def exec_bit_3_atHL (s : State) : Result := runExt 0x5E (testHL 3) s

/-- BIT 3,A (R270). -/
def exec_bit_3_a (s : State) : Result := runExt 0x5F (testReg 3 .a) s

/-- BIT 4,B (R270). -/
def exec_bit_4_b (s : State) : Result := runExt 0x60 (testReg 4 .b) s

/-- BIT 4,C (R270). -/
def exec_bit_4_c (s : State) : Result := runExt 0x61 (testReg 4 .c) s

/-- BIT 4,D (R270). -/
def exec_bit_4_d (s : State) : Result := runExt 0x62 (testReg 4 .d) s

/-- BIT 4,E (R270). -/
def exec_bit_4_e (s : State) : Result := runExt 0x63 (testReg 4 .e) s

/-- BIT 4,H (R270). -/
def exec_bit_4_h (s : State) : Result := runExt 0x64 (testReg 4 .h) s

/-- BIT 4,L (R270). -/
def exec_bit_4_l (s : State) : Result := runExt 0x65 (testReg 4 .l) s

/-- BIT 4,(HL) (R271). -/
def exec_bit_4_atHL (s : State) : Result := runExt 0x66 (testHL 4) s

/-- BIT 4,A (R270). -/
def exec_bit_4_a (s : State) : Result := runExt 0x67 (testReg 4 .a) s

/-- BIT 5,B (R270). -/
def exec_bit_5_b (s : State) : Result := runExt 0x68 (testReg 5 .b) s

/-- BIT 5,C (R270). -/
def exec_bit_5_c (s : State) : Result := runExt 0x69 (testReg 5 .c) s

/-- BIT 5,D (R270). -/
def exec_bit_5_d (s : State) : Result := runExt 0x6A (testReg 5 .d) s

/-- BIT 5,E (R270). -/
def exec_bit_5_e (s : State) : Result := runExt 0x6B (testReg 5 .e) s

/-- BIT 5,H (R270). -/
def exec_bit_5_h (s : State) : Result := runExt 0x6C (testReg 5 .h) s

/-- BIT 5,L (R270). -/
def exec_bit_5_l (s : State) : Result := runExt 0x6D (testReg 5 .l) s

/-- BIT 5,(HL) (R271). -/
def exec_bit_5_atHL (s : State) : Result := runExt 0x6E (testHL 5) s

/-- BIT 5,A (R270). -/
def exec_bit_5_a (s : State) : Result := runExt 0x6F (testReg 5 .a) s

/-- BIT 6,B (R270). -/
def exec_bit_6_b (s : State) : Result := runExt 0x70 (testReg 6 .b) s

/-- BIT 6,C (R270). -/
def exec_bit_6_c (s : State) : Result := runExt 0x71 (testReg 6 .c) s

/-- BIT 6,D (R270). -/
def exec_bit_6_d (s : State) : Result := runExt 0x72 (testReg 6 .d) s

/-- BIT 6,E (R270). -/
def exec_bit_6_e (s : State) : Result := runExt 0x73 (testReg 6 .e) s

/-- BIT 6,H (R270). -/
def exec_bit_6_h (s : State) : Result := runExt 0x74 (testReg 6 .h) s

/-- BIT 6,L (R270). -/
def exec_bit_6_l (s : State) : Result := runExt 0x75 (testReg 6 .l) s

/-- BIT 6,(HL) (R271). -/
def exec_bit_6_atHL (s : State) : Result := runExt 0x76 (testHL 6) s

/-- BIT 6,A (R270). -/
def exec_bit_6_a (s : State) : Result := runExt 0x77 (testReg 6 .a) s

/-- BIT 7,B (R270). -/
def exec_bit_7_b (s : State) : Result := runExt 0x78 (testReg 7 .b) s

/-- BIT 7,C (R270). -/
def exec_bit_7_c (s : State) : Result := runExt 0x79 (testReg 7 .c) s

/-- BIT 7,D (R270). -/
def exec_bit_7_d (s : State) : Result := runExt 0x7A (testReg 7 .d) s

/-- BIT 7,E (R270). -/
def exec_bit_7_e (s : State) : Result := runExt 0x7B (testReg 7 .e) s

/-- BIT 7,H (R270). -/
def exec_bit_7_h (s : State) : Result := runExt 0x7C (testReg 7 .h) s

/-- BIT 7,L (R270). -/
def exec_bit_7_l (s : State) : Result := runExt 0x7D (testReg 7 .l) s

/-- BIT 7,(HL) (R271). -/
def exec_bit_7_atHL (s : State) : Result := runExt 0x7E (testHL 7) s

/-- BIT 7,A (R270). -/
def exec_bit_7_a (s : State) : Result := runExt 0x7F (testReg 7 .a) s

/-- RES 0,B (R272). -/
def exec_res_0_b (s : State) : Result := runExt 0x80 (clearReg 0 .b) s

/-- RES 0,C (R272). -/
def exec_res_0_c (s : State) : Result := runExt 0x81 (clearReg 0 .c) s

/-- RES 0,D (R272). -/
def exec_res_0_d (s : State) : Result := runExt 0x82 (clearReg 0 .d) s

/-- RES 0,E (R272). -/
def exec_res_0_e (s : State) : Result := runExt 0x83 (clearReg 0 .e) s

/-- RES 0,H (R272). -/
def exec_res_0_h (s : State) : Result := runExt 0x84 (clearReg 0 .h) s

/-- RES 0,L (R272). -/
def exec_res_0_l (s : State) : Result := runExt 0x85 (clearReg 0 .l) s

/-- RES 0,(HL) (R273). -/
def exec_res_0_atHL (s : State) : Result := runExt 0x86 (clearHL 0) s

/-- RES 0,A (R272). -/
def exec_res_0_a (s : State) : Result := runExt 0x87 (clearReg 0 .a) s

/-- RES 1,B (R272). -/
def exec_res_1_b (s : State) : Result := runExt 0x88 (clearReg 1 .b) s

/-- RES 1,C (R272). -/
def exec_res_1_c (s : State) : Result := runExt 0x89 (clearReg 1 .c) s

/-- RES 1,D (R272). -/
def exec_res_1_d (s : State) : Result := runExt 0x8A (clearReg 1 .d) s

/-- RES 1,E (R272). -/
def exec_res_1_e (s : State) : Result := runExt 0x8B (clearReg 1 .e) s

/-- RES 1,H (R272). -/
def exec_res_1_h (s : State) : Result := runExt 0x8C (clearReg 1 .h) s

/-- RES 1,L (R272). -/
def exec_res_1_l (s : State) : Result := runExt 0x8D (clearReg 1 .l) s

/-- RES 1,(HL) (R273). -/
def exec_res_1_atHL (s : State) : Result := runExt 0x8E (clearHL 1) s

/-- RES 1,A (R272). -/
def exec_res_1_a (s : State) : Result := runExt 0x8F (clearReg 1 .a) s

/-- RES 2,B (R272). -/
def exec_res_2_b (s : State) : Result := runExt 0x90 (clearReg 2 .b) s

/-- RES 2,C (R272). -/
def exec_res_2_c (s : State) : Result := runExt 0x91 (clearReg 2 .c) s

/-- RES 2,D (R272). -/
def exec_res_2_d (s : State) : Result := runExt 0x92 (clearReg 2 .d) s

/-- RES 2,E (R272). -/
def exec_res_2_e (s : State) : Result := runExt 0x93 (clearReg 2 .e) s

/-- RES 2,H (R272). -/
def exec_res_2_h (s : State) : Result := runExt 0x94 (clearReg 2 .h) s

/-- RES 2,L (R272). -/
def exec_res_2_l (s : State) : Result := runExt 0x95 (clearReg 2 .l) s

/-- RES 2,(HL) (R273). -/
def exec_res_2_atHL (s : State) : Result := runExt 0x96 (clearHL 2) s

/-- RES 2,A (R272). -/
def exec_res_2_a (s : State) : Result := runExt 0x97 (clearReg 2 .a) s

/-- RES 3,B (R272). -/
def exec_res_3_b (s : State) : Result := runExt 0x98 (clearReg 3 .b) s

/-- RES 3,C (R272). -/
def exec_res_3_c (s : State) : Result := runExt 0x99 (clearReg 3 .c) s

/-- RES 3,D (R272). -/
def exec_res_3_d (s : State) : Result := runExt 0x9A (clearReg 3 .d) s

/-- RES 3,E (R272). -/
def exec_res_3_e (s : State) : Result := runExt 0x9B (clearReg 3 .e) s

/-- RES 3,H (R272). -/
def exec_res_3_h (s : State) : Result := runExt 0x9C (clearReg 3 .h) s

/-- RES 3,L (R272). -/
def exec_res_3_l (s : State) : Result := runExt 0x9D (clearReg 3 .l) s

/-- RES 3,(HL) (R273). -/
def exec_res_3_atHL (s : State) : Result := runExt 0x9E (clearHL 3) s

/-- RES 3,A (R272). -/
def exec_res_3_a (s : State) : Result := runExt 0x9F (clearReg 3 .a) s

/-- RES 4,B (R272). -/
def exec_res_4_b (s : State) : Result := runExt 0xA0 (clearReg 4 .b) s

/-- RES 4,C (R272). -/
def exec_res_4_c (s : State) : Result := runExt 0xA1 (clearReg 4 .c) s

/-- RES 4,D (R272). -/
def exec_res_4_d (s : State) : Result := runExt 0xA2 (clearReg 4 .d) s

/-- RES 4,E (R272). -/
def exec_res_4_e (s : State) : Result := runExt 0xA3 (clearReg 4 .e) s

/-- RES 4,H (R272). -/
def exec_res_4_h (s : State) : Result := runExt 0xA4 (clearReg 4 .h) s

/-- RES 4,L (R272). -/
def exec_res_4_l (s : State) : Result := runExt 0xA5 (clearReg 4 .l) s

/-- RES 4,(HL) (R273). -/
def exec_res_4_atHL (s : State) : Result := runExt 0xA6 (clearHL 4) s

/-- RES 4,A (R272). -/
def exec_res_4_a (s : State) : Result := runExt 0xA7 (clearReg 4 .a) s

/-- RES 5,B (R272). -/
def exec_res_5_b (s : State) : Result := runExt 0xA8 (clearReg 5 .b) s

/-- RES 5,C (R272). -/
def exec_res_5_c (s : State) : Result := runExt 0xA9 (clearReg 5 .c) s

/-- RES 5,D (R272). -/
def exec_res_5_d (s : State) : Result := runExt 0xAA (clearReg 5 .d) s

/-- RES 5,E (R272). -/
def exec_res_5_e (s : State) : Result := runExt 0xAB (clearReg 5 .e) s

/-- RES 5,H (R272). -/
def exec_res_5_h (s : State) : Result := runExt 0xAC (clearReg 5 .h) s

/-- RES 5,L (R272). -/
def exec_res_5_l (s : State) : Result := runExt 0xAD (clearReg 5 .l) s

/-- RES 5,(HL) (R273). -/
def exec_res_5_atHL (s : State) : Result := runExt 0xAE (clearHL 5) s

/-- RES 5,A (R272). -/
def exec_res_5_a (s : State) : Result := runExt 0xAF (clearReg 5 .a) s

/-- RES 6,B (R272). -/
def exec_res_6_b (s : State) : Result := runExt 0xB0 (clearReg 6 .b) s

/-- RES 6,C (R272). -/
def exec_res_6_c (s : State) : Result := runExt 0xB1 (clearReg 6 .c) s

/-- RES 6,D (R272). -/
def exec_res_6_d (s : State) : Result := runExt 0xB2 (clearReg 6 .d) s

/-- RES 6,E (R272). -/
def exec_res_6_e (s : State) : Result := runExt 0xB3 (clearReg 6 .e) s

/-- RES 6,H (R272). -/
def exec_res_6_h (s : State) : Result := runExt 0xB4 (clearReg 6 .h) s

/-- RES 6,L (R272). -/
def exec_res_6_l (s : State) : Result := runExt 0xB5 (clearReg 6 .l) s

/-- RES 6,(HL) (R273). -/
def exec_res_6_atHL (s : State) : Result := runExt 0xB6 (clearHL 6) s

/-- RES 6,A (R272). -/
def exec_res_6_a (s : State) : Result := runExt 0xB7 (clearReg 6 .a) s

/-- RES 7,B (R272). -/
def exec_res_7_b (s : State) : Result := runExt 0xB8 (clearReg 7 .b) s

/-- RES 7,C (R272). -/
def exec_res_7_c (s : State) : Result := runExt 0xB9 (clearReg 7 .c) s

/-- RES 7,D (R272). -/
def exec_res_7_d (s : State) : Result := runExt 0xBA (clearReg 7 .d) s

/-- RES 7,E (R272). -/
def exec_res_7_e (s : State) : Result := runExt 0xBB (clearReg 7 .e) s

/-- RES 7,H (R272). -/
def exec_res_7_h (s : State) : Result := runExt 0xBC (clearReg 7 .h) s

/-- RES 7,L (R272). -/
def exec_res_7_l (s : State) : Result := runExt 0xBD (clearReg 7 .l) s

/-- RES 7,(HL) (R273). -/
def exec_res_7_atHL (s : State) : Result := runExt 0xBE (clearHL 7) s

/-- RES 7,A (R272). -/
def exec_res_7_a (s : State) : Result := runExt 0xBF (clearReg 7 .a) s

/-- SET 0,B (R274). -/
def exec_set_0_b (s : State) : Result := runExt 0xC0 (assertReg 0 .b) s

/-- SET 0,C (R274). -/
def exec_set_0_c (s : State) : Result := runExt 0xC1 (assertReg 0 .c) s

/-- SET 0,D (R274). -/
def exec_set_0_d (s : State) : Result := runExt 0xC2 (assertReg 0 .d) s

/-- SET 0,E (R274). -/
def exec_set_0_e (s : State) : Result := runExt 0xC3 (assertReg 0 .e) s

/-- SET 0,H (R274). -/
def exec_set_0_h (s : State) : Result := runExt 0xC4 (assertReg 0 .h) s

/-- SET 0,L (R274). -/
def exec_set_0_l (s : State) : Result := runExt 0xC5 (assertReg 0 .l) s

/-- SET 0,(HL) (R275). -/
def exec_set_0_atHL (s : State) : Result := runExt 0xC6 (assertHL 0) s

/-- SET 0,A (R274). -/
def exec_set_0_a (s : State) : Result := runExt 0xC7 (assertReg 0 .a) s

/-- SET 1,B (R274). -/
def exec_set_1_b (s : State) : Result := runExt 0xC8 (assertReg 1 .b) s

/-- SET 1,C (R274). -/
def exec_set_1_c (s : State) : Result := runExt 0xC9 (assertReg 1 .c) s

/-- SET 1,D (R274). -/
def exec_set_1_d (s : State) : Result := runExt 0xCA (assertReg 1 .d) s

/-- SET 1,E (R274). -/
def exec_set_1_e (s : State) : Result := runExt 0xCB (assertReg 1 .e) s

/-- SET 1,H (R274). -/
def exec_set_1_h (s : State) : Result := runExt 0xCC (assertReg 1 .h) s

/-- SET 1,L (R274). -/
def exec_set_1_l (s : State) : Result := runExt 0xCD (assertReg 1 .l) s

/-- SET 1,(HL) (R275). -/
def exec_set_1_atHL (s : State) : Result := runExt 0xCE (assertHL 1) s

/-- SET 1,A (R274). -/
def exec_set_1_a (s : State) : Result := runExt 0xCF (assertReg 1 .a) s

/-- SET 2,B (R274). -/
def exec_set_2_b (s : State) : Result := runExt 0xD0 (assertReg 2 .b) s

/-- SET 2,C (R274). -/
def exec_set_2_c (s : State) : Result := runExt 0xD1 (assertReg 2 .c) s

/-- SET 2,D (R274). -/
def exec_set_2_d (s : State) : Result := runExt 0xD2 (assertReg 2 .d) s

/-- SET 2,E (R274). -/
def exec_set_2_e (s : State) : Result := runExt 0xD3 (assertReg 2 .e) s

/-- SET 2,H (R274). -/
def exec_set_2_h (s : State) : Result := runExt 0xD4 (assertReg 2 .h) s

/-- SET 2,L (R274). -/
def exec_set_2_l (s : State) : Result := runExt 0xD5 (assertReg 2 .l) s

/-- SET 2,(HL) (R275). -/
def exec_set_2_atHL (s : State) : Result := runExt 0xD6 (assertHL 2) s

/-- SET 2,A (R274). -/
def exec_set_2_a (s : State) : Result := runExt 0xD7 (assertReg 2 .a) s

/-- SET 3,B (R274). -/
def exec_set_3_b (s : State) : Result := runExt 0xD8 (assertReg 3 .b) s

/-- SET 3,C (R274). -/
def exec_set_3_c (s : State) : Result := runExt 0xD9 (assertReg 3 .c) s

/-- SET 3,D (R274). -/
def exec_set_3_d (s : State) : Result := runExt 0xDA (assertReg 3 .d) s

/-- SET 3,E (R274). -/
def exec_set_3_e (s : State) : Result := runExt 0xDB (assertReg 3 .e) s

/-- SET 3,H (R274). -/
def exec_set_3_h (s : State) : Result := runExt 0xDC (assertReg 3 .h) s

/-- SET 3,L (R274). -/
def exec_set_3_l (s : State) : Result := runExt 0xDD (assertReg 3 .l) s

/-- SET 3,(HL) (R275). -/
def exec_set_3_atHL (s : State) : Result := runExt 0xDE (assertHL 3) s

/-- SET 3,A (R274). -/
def exec_set_3_a (s : State) : Result := runExt 0xDF (assertReg 3 .a) s

/-- SET 4,B (R274). -/
def exec_set_4_b (s : State) : Result := runExt 0xE0 (assertReg 4 .b) s

/-- SET 4,C (R274). -/
def exec_set_4_c (s : State) : Result := runExt 0xE1 (assertReg 4 .c) s

/-- SET 4,D (R274). -/
def exec_set_4_d (s : State) : Result := runExt 0xE2 (assertReg 4 .d) s

/-- SET 4,E (R274). -/
def exec_set_4_e (s : State) : Result := runExt 0xE3 (assertReg 4 .e) s

/-- SET 4,H (R274). -/
def exec_set_4_h (s : State) : Result := runExt 0xE4 (assertReg 4 .h) s

/-- SET 4,L (R274). -/
def exec_set_4_l (s : State) : Result := runExt 0xE5 (assertReg 4 .l) s

/-- SET 4,(HL) (R275). -/
def exec_set_4_atHL (s : State) : Result := runExt 0xE6 (assertHL 4) s

/-- SET 4,A (R274). -/
def exec_set_4_a (s : State) : Result := runExt 0xE7 (assertReg 4 .a) s

/-- SET 5,B (R274). -/
def exec_set_5_b (s : State) : Result := runExt 0xE8 (assertReg 5 .b) s

/-- SET 5,C (R274). -/
def exec_set_5_c (s : State) : Result := runExt 0xE9 (assertReg 5 .c) s

/-- SET 5,D (R274). -/
def exec_set_5_d (s : State) : Result := runExt 0xEA (assertReg 5 .d) s

/-- SET 5,E (R274). -/
def exec_set_5_e (s : State) : Result := runExt 0xEB (assertReg 5 .e) s

/-- SET 5,H (R274). -/
def exec_set_5_h (s : State) : Result := runExt 0xEC (assertReg 5 .h) s

/-- SET 5,L (R274). -/
def exec_set_5_l (s : State) : Result := runExt 0xED (assertReg 5 .l) s

/-- SET 5,(HL) (R275). -/
def exec_set_5_atHL (s : State) : Result := runExt 0xEE (assertHL 5) s

/-- SET 5,A (R274). -/
def exec_set_5_a (s : State) : Result := runExt 0xEF (assertReg 5 .a) s

/-- SET 6,B (R274). -/
def exec_set_6_b (s : State) : Result := runExt 0xF0 (assertReg 6 .b) s

/-- SET 6,C (R274). -/
def exec_set_6_c (s : State) : Result := runExt 0xF1 (assertReg 6 .c) s

/-- SET 6,D (R274). -/
def exec_set_6_d (s : State) : Result := runExt 0xF2 (assertReg 6 .d) s

/-- SET 6,E (R274). -/
def exec_set_6_e (s : State) : Result := runExt 0xF3 (assertReg 6 .e) s

/-- SET 6,H (R274). -/
def exec_set_6_h (s : State) : Result := runExt 0xF4 (assertReg 6 .h) s

/-- SET 6,L (R274). -/
def exec_set_6_l (s : State) : Result := runExt 0xF5 (assertReg 6 .l) s

/-- SET 6,(HL) (R275). -/
def exec_set_6_atHL (s : State) : Result := runExt 0xF6 (assertHL 6) s

/-- SET 6,A (R274). -/
def exec_set_6_a (s : State) : Result := runExt 0xF7 (assertReg 6 .a) s

/-- SET 7,B (R274). -/
def exec_set_7_b (s : State) : Result := runExt 0xF8 (assertReg 7 .b) s

/-- SET 7,C (R274). -/
def exec_set_7_c (s : State) : Result := runExt 0xF9 (assertReg 7 .c) s

/-- SET 7,D (R274). -/
def exec_set_7_d (s : State) : Result := runExt 0xFA (assertReg 7 .d) s

/-- SET 7,E (R274). -/
def exec_set_7_e (s : State) : Result := runExt 0xFB (assertReg 7 .e) s

/-- SET 7,H (R274). -/
def exec_set_7_h (s : State) : Result := runExt 0xFC (assertReg 7 .h) s

/-- SET 7,L (R274). -/
def exec_set_7_l (s : State) : Result := runExt 0xFD (assertReg 7 .l) s

/-- SET 7,(HL) (R275). -/
def exec_set_7_atHL (s : State) : Result := runExt 0xFE (assertHL 7) s

/-- SET 7,A (R274). -/
def exec_set_7_a (s : State) : Result := runExt 0xFF (assertReg 7 .a) s

end Sys2Proof.Machine
end

