-- ==== Sys2Proof/Machine/Control.lean ====
section
/-!
DEFINITION. The control transfers (spec/46_control.md R290 to R300): the actions, then one meaning per instruction.
PC is `op_addr` when an action begins (R114), and these actions alone set PC (R97, R115).
-/

namespace Sys2Proof.Machine

/-- JP a16 (R290). -/
def jump (a : Word) (s : State) : State := { s with pc := a }

/-- JP cc,a16 (R291). -/
def jumpCond (cc : Cond) (a : Word) (s : State) : State :=
  if s.cond cc then jump a s else { s with pc := s.pc + 3 }

/-- JP HL (R292): no memory is read. -/
def jumpHL (s : State) : State := jump s.hl s

/-- `jr(c)` (R135). -/
def relative (taken : Bool) (e : Byte) (s : State) : State :=
  { s with pc := if taken then s.pc + 2 + sext16 e else s.pc + 2 }

/-- JR e8 (R293). -/
def jumpRelative (e : Byte) (s : State) : State := relative true e s

/-- JR cc,e8 (R294). -/
def jumpRelativeCond (cc : Cond) (e : Byte) (s : State) : State := relative (s.cond cc) e s

/-- `call(target)` (R133) and CALL a16 (R295). -/
def call (a : Word) (s : State) : State := { s.push16 (s.pc + 3) with pc := a }

/-- CALL cc,a16 (R296). -/
def callCond (cc : Cond) (a : Word) (s : State) : State :=
  if s.cond cc then call a s else { s with pc := s.pc + 3 }

/-- `ret()` (R134) and RET (R297). -/
def returnFromCall (s : State) : State := { s.drop16 with pc := s.top16 }

/-- RET cc (R298). -/
def returnCond (cc : Cond) (s : State) : State :=
  if s.cond cc then returnFromCall s else { s with pc := s.pc + 1 }

/-- RETI (R299). -/
def returnAndEnable (s : State) : State := { returnFromCall s with ime := true }

/-- RST t (R300). -/
def restart (t : Word) (s : State) : State := { s.push16 (s.pc + 1) with pc := t }

/-! ## Meanings -/

/-- JR e8 (R293). -/
def exec_jr_e8 (e : Byte) (s : State) : Result := runBase 0x18 (jumpRelative e) s

/-- JR NZ,e8 (R294). -/
def exec_jr_nz_e8 (e : Byte) (s : State) : Result := runBase 0x20 (jumpRelativeCond .nz e) s

/-- JR Z,e8 (R294). -/
def exec_jr_z_e8 (e : Byte) (s : State) : Result := runBase 0x28 (jumpRelativeCond .z e) s

/-- JR NC,e8 (R294). -/
def exec_jr_nc_e8 (e : Byte) (s : State) : Result := runBase 0x30 (jumpRelativeCond .nc e) s

/-- JR C,e8 (R294). -/
def exec_jr_c_e8 (e : Byte) (s : State) : Result := runBase 0x38 (jumpRelativeCond .c e) s

/-- RET NZ (R298). -/
def exec_ret_nz (s : State) : Result := runBase 0xC0 (returnCond .nz) s

/-- JP NZ,a16 (R291). -/
def exec_jp_nz_a16 (a : Word) (s : State) : Result := runBase 0xC2 (jumpCond .nz a) s

/-- JP a16 (R290). -/
def exec_jp_a16 (a : Word) (s : State) : Result := runBase 0xC3 (jump a) s

/-- CALL NZ,a16 (R296). -/
def exec_call_nz_a16 (a : Word) (s : State) : Result := runBase 0xC4 (callCond .nz a) s

/-- RST 00h (R300). -/
def exec_rst_00h (s : State) : Result := runBase 0xC7 (restart 0x0000) s

/-- RET Z (R298). -/
def exec_ret_z (s : State) : Result := runBase 0xC8 (returnCond .z) s

/-- RET (R297). -/
def exec_ret (s : State) : Result := runBase 0xC9 returnFromCall s

/-- JP Z,a16 (R291). -/
def exec_jp_z_a16 (a : Word) (s : State) : Result := runBase 0xCA (jumpCond .z a) s

/-- CALL Z,a16 (R296). -/
def exec_call_z_a16 (a : Word) (s : State) : Result := runBase 0xCC (callCond .z a) s

/-- CALL a16 (R295). -/
def exec_call_a16 (a : Word) (s : State) : Result := runBase 0xCD (call a) s

/-- RST 08h (R300). -/
def exec_rst_08h (s : State) : Result := runBase 0xCF (restart 0x0008) s

/-- RET NC (R298). -/
def exec_ret_nc (s : State) : Result := runBase 0xD0 (returnCond .nc) s

/-- JP NC,a16 (R291). -/
def exec_jp_nc_a16 (a : Word) (s : State) : Result := runBase 0xD2 (jumpCond .nc a) s

/-- CALL NC,a16 (R296). -/
def exec_call_nc_a16 (a : Word) (s : State) : Result := runBase 0xD4 (callCond .nc a) s

/-- RST 10h (R300). -/
def exec_rst_10h (s : State) : Result := runBase 0xD7 (restart 0x0010) s

/-- RET C (R298). -/
def exec_ret_c (s : State) : Result := runBase 0xD8 (returnCond .c) s

/-- RETI (R299). -/
def exec_reti (s : State) : Result := runBase 0xD9 returnAndEnable s

/-- JP C,a16 (R291). -/
def exec_jp_c_a16 (a : Word) (s : State) : Result := runBase 0xDA (jumpCond .c a) s

/-- CALL C,a16 (R296). -/
def exec_call_c_a16 (a : Word) (s : State) : Result := runBase 0xDC (callCond .c a) s

/-- RST 18h (R300). -/
def exec_rst_18h (s : State) : Result := runBase 0xDF (restart 0x0018) s

/-- RST 20h (R300). -/
def exec_rst_20h (s : State) : Result := runBase 0xE7 (restart 0x0020) s

/-- JP HL (R292). -/
def exec_jp_hl (s : State) : Result := runBase 0xE9 jumpHL s

/-- RST 28h (R300). -/
def exec_rst_28h (s : State) : Result := runBase 0xEF (restart 0x0028) s

/-- RST 30h (R300). -/
def exec_rst_30h (s : State) : Result := runBase 0xF7 (restart 0x0030) s

/-- RST 38h (R300). -/
def exec_rst_38h (s : State) : Result := runBase 0xFF (restart 0x0038) s

end Sys2Proof.Machine
end

