-- ==== Sys2Proof/Machine/Load16.lean ====
section
/-!
DEFINITION. The 16-bit loads and stack operations (spec/42_load16_stack.md R180 to R186): the actions, then one
meaning per instruction.
-/

namespace Sys2Proof.Machine

/-- LD rr,d16 (R180). -/
def loadPair (r : Reg16) (w : Word) (s : State) : State := s.setReg16 r w

/-- LD (a16),SP (R181). -/
def storeSP (a : Word) (s : State) : State := s.writeWord a s.sp

/-- LD SP,HL (R182). -/
def loadSPFromHL (s : State) : State := { s with sp := s.hl }

/-- LD HL,SP+e8 (R183, R140): SP is unchanged. -/
def loadHLFromSP (e : Byte) (s : State) : State :=
  (s.setPair .hl (addSpResult s.sp e)).setF false false (addSpHalf s.sp e) (addSpCarry s.sp e)

/-- PUSH rr (R184): `push16(asWord(rr))`. -/
def push (p : Pair) (s : State) : State := s.push16 (s.getPair p)

/-- POP rr and POP AF (R185, R186): `w <- pop16()`, then `setWord(rr, w)`, which for AF drops bits 3 to 0 of the low
byte (R25). -/
def pop (p : Pair) (s : State) : State := s.drop16.setPair p s.top16

/-! ## Meanings -/

/-- LD BC,d16 (R180). -/
def exec_ld_bc_d16 (w : Word) (s : State) : Result := runBase 0x01 (loadPair .bc w) s

/-- LD (a16),SP (R181). -/
def exec_ld_atA16_sp (a : Word) (s : State) : Result := runBase 0x08 (storeSP a) s

/-- LD DE,d16 (R180). -/
def exec_ld_de_d16 (w : Word) (s : State) : Result := runBase 0x11 (loadPair .de w) s

/-- LD HL,d16 (R180). -/
def exec_ld_hl_d16 (w : Word) (s : State) : Result := runBase 0x21 (loadPair .hl w) s

/-- LD SP,d16 (R180). -/
def exec_ld_sp_d16 (w : Word) (s : State) : Result := runBase 0x31 (loadPair .sp w) s

/-- POP BC (R185). -/
def exec_pop_bc (s : State) : Result := runBase 0xC1 (pop .bc) s

/-- PUSH BC (R184). -/
def exec_push_bc (s : State) : Result := runBase 0xC5 (push .bc) s

/-- POP DE (R185). -/
def exec_pop_de (s : State) : Result := runBase 0xD1 (pop .de) s

/-- PUSH DE (R184). -/
def exec_push_de (s : State) : Result := runBase 0xD5 (push .de) s

/-- POP HL (R185). -/
def exec_pop_hl (s : State) : Result := runBase 0xE1 (pop .hl) s

/-- PUSH HL (R184). -/
def exec_push_hl (s : State) : Result := runBase 0xE5 (push .hl) s

/-- POP AF (R186). -/
def exec_pop_af (s : State) : Result := runBase 0xF1 (pop .af) s

/-- PUSH AF (R184). -/
def exec_push_af (s : State) : Result := runBase 0xF5 (push .af) s

/-- LD HL,SP+e8 (R183). -/
def exec_ld_hl_spE8 (e : Byte) (s : State) : Result := runBase 0xF8 (loadHLFromSP e) s

/-- LD SP,HL (R182). -/
def exec_ld_sp_hl (s : State) : Result := runBase 0xF9 loadSPFromHL s

end Sys2Proof.Machine
end

