-- ==== Sys2Proof/Machine/Load8.lean ====
section
/-!
DEFINITION. The 8-bit loads (spec/41_load8.md R150 to R168): the actions, then one meaning per instruction.
-/

namespace Sys2Proof.Machine

/-- LD r,r' (R150): `reg8[d] <- reg8[s]`. -/
def loadReg (dst r : Reg8) (s : State) : State := s.setR dst (s.getR r)

/-- LD r,d8 (R151). -/
def loadImm (r : Reg8) (n : Byte) (s : State) : State := s.setR r n

/-- LD r,(HL) (R152). -/
def loadFromHL (r : Reg8) (s : State) : State := s.setR r (s.readByte s.hl)

/-- LD (HL),r (R153). -/
def storeReg (r : Reg8) (s : State) : State := s.writeByte s.hl (s.getR r)

/-- LD (HL),d8 (R154). -/
def storeImm (n : Byte) (s : State) : State := s.writeByte s.hl n

/-- `A <- MemRead(a, 1)` (R159, R162, R164). -/
def loadA (a : Word) (s : State) : State := s.setR .a (s.readByte a)

/-- `MemWrite(a, 1, A)` (R160, R161, R163). -/
def storeA (a : Word) (s : State) : State := s.writeByte a s.a

/-- `ind_load` (R142): the access uses the pair's value before the change. -/
def indLoad (p : Pair) (delta : Word) (s : State) : State :=
  (loadA (s.getPair p) s).setPair p (s.getPair p + delta)

/-- `ind_store` (R142): the access uses the pair's value before the change. -/
def indStore (p : Pair) (delta : Word) (s : State) : State :=
  (storeA (s.getPair p) s).setPair p (s.getPair p + delta)

/-! ## Meanings -/

/-- LD (BC),A (R157). -/
def exec_ld_atBC_a (s : State) : Result := runBase 0x02 (indStore .bc 0) s

/-- LD B,d8 (R151). -/
def exec_ld_b_d8 (n : Byte) (s : State) : Result := runBase 0x06 (loadImm .b n) s

/-- LD A,(BC) (R155). -/
def exec_ld_a_atBC (s : State) : Result := runBase 0x0A (indLoad .bc 0) s

/-- LD C,d8 (R151). -/
def exec_ld_c_d8 (n : Byte) (s : State) : Result := runBase 0x0E (loadImm .c n) s

/-- LD (DE),A (R158). -/
def exec_ld_atDE_a (s : State) : Result := runBase 0x12 (indStore .de 0) s

/-- LD D,d8 (R151). -/
def exec_ld_d_d8 (n : Byte) (s : State) : Result := runBase 0x16 (loadImm .d n) s

/-- LD A,(DE) (R156). -/
def exec_ld_a_atDE (s : State) : Result := runBase 0x1A (indLoad .de 0) s

/-- LD E,d8 (R151). -/
def exec_ld_e_d8 (n : Byte) (s : State) : Result := runBase 0x1E (loadImm .e n) s

/-- LD (HL+),A (R165). -/
def exec_ld_atHLinc_a (s : State) : Result := runBase 0x22 (indStore .hl 1) s

/-- LD H,d8 (R151). -/
def exec_ld_h_d8 (n : Byte) (s : State) : Result := runBase 0x26 (loadImm .h n) s

/-- LD A,(HL+) (R167). -/
def exec_ld_a_atHLinc (s : State) : Result := runBase 0x2A (indLoad .hl 1) s

/-- LD L,d8 (R151). -/
def exec_ld_l_d8 (n : Byte) (s : State) : Result := runBase 0x2E (loadImm .l n) s

/-- LD (HL-),A (R166). -/
def exec_ld_atHLdec_a (s : State) : Result := runBase 0x32 (indStore .hl (-1)) s

/-- LD (HL),d8 (R154). -/
def exec_ld_atHL_d8 (n : Byte) (s : State) : Result := runBase 0x36 (storeImm n) s

/-- LD A,(HL-) (R168). -/
def exec_ld_a_atHLdec (s : State) : Result := runBase 0x3A (indLoad .hl (-1)) s

/-- LD A,d8 (R151). -/
def exec_ld_a_d8 (n : Byte) (s : State) : Result := runBase 0x3E (loadImm .a n) s

/-- LD B,B (R150). -/
def exec_ld_b_b (s : State) : Result := runBase 0x40 (loadReg .b .b) s

/-- LD B,C (R150). -/
def exec_ld_b_c (s : State) : Result := runBase 0x41 (loadReg .b .c) s

/-- LD B,D (R150). -/
def exec_ld_b_d (s : State) : Result := runBase 0x42 (loadReg .b .d) s

/-- LD B,E (R150). -/
def exec_ld_b_e (s : State) : Result := runBase 0x43 (loadReg .b .e) s

/-- LD B,H (R150). -/
def exec_ld_b_h (s : State) : Result := runBase 0x44 (loadReg .b .h) s

/-- LD B,L (R150). -/
def exec_ld_b_l (s : State) : Result := runBase 0x45 (loadReg .b .l) s

/-- LD B,(HL) (R152). -/
def exec_ld_b_atHL (s : State) : Result := runBase 0x46 (loadFromHL .b) s

/-- LD B,A (R150). -/
def exec_ld_b_a (s : State) : Result := runBase 0x47 (loadReg .b .a) s

/-- LD C,B (R150). -/
def exec_ld_c_b (s : State) : Result := runBase 0x48 (loadReg .c .b) s

/-- LD C,C (R150). -/
def exec_ld_c_c (s : State) : Result := runBase 0x49 (loadReg .c .c) s

/-- LD C,D (R150). -/
def exec_ld_c_d (s : State) : Result := runBase 0x4A (loadReg .c .d) s

/-- LD C,E (R150). -/
def exec_ld_c_e (s : State) : Result := runBase 0x4B (loadReg .c .e) s

/-- LD C,H (R150). -/
def exec_ld_c_h (s : State) : Result := runBase 0x4C (loadReg .c .h) s

/-- LD C,L (R150). -/
def exec_ld_c_l (s : State) : Result := runBase 0x4D (loadReg .c .l) s

/-- LD C,(HL) (R152). -/
def exec_ld_c_atHL (s : State) : Result := runBase 0x4E (loadFromHL .c) s

/-- LD C,A (R150). -/
def exec_ld_c_a (s : State) : Result := runBase 0x4F (loadReg .c .a) s

/-- LD D,B (R150). -/
def exec_ld_d_b (s : State) : Result := runBase 0x50 (loadReg .d .b) s

/-- LD D,C (R150). -/
def exec_ld_d_c (s : State) : Result := runBase 0x51 (loadReg .d .c) s

/-- LD D,D (R150). -/
def exec_ld_d_d (s : State) : Result := runBase 0x52 (loadReg .d .d) s

/-- LD D,E (R150). -/
def exec_ld_d_e (s : State) : Result := runBase 0x53 (loadReg .d .e) s

/-- LD D,H (R150). -/
def exec_ld_d_h (s : State) : Result := runBase 0x54 (loadReg .d .h) s

/-- LD D,L (R150). -/
def exec_ld_d_l (s : State) : Result := runBase 0x55 (loadReg .d .l) s

/-- LD D,(HL) (R152). -/
def exec_ld_d_atHL (s : State) : Result := runBase 0x56 (loadFromHL .d) s

/-- LD D,A (R150). -/
def exec_ld_d_a (s : State) : Result := runBase 0x57 (loadReg .d .a) s

/-- LD E,B (R150). -/
def exec_ld_e_b (s : State) : Result := runBase 0x58 (loadReg .e .b) s

/-- LD E,C (R150). -/
def exec_ld_e_c (s : State) : Result := runBase 0x59 (loadReg .e .c) s

/-- LD E,D (R150). -/
def exec_ld_e_d (s : State) : Result := runBase 0x5A (loadReg .e .d) s

/-- LD E,E (R150). -/
def exec_ld_e_e (s : State) : Result := runBase 0x5B (loadReg .e .e) s

/-- LD E,H (R150). -/
def exec_ld_e_h (s : State) : Result := runBase 0x5C (loadReg .e .h) s

/-- LD E,L (R150). -/
def exec_ld_e_l (s : State) : Result := runBase 0x5D (loadReg .e .l) s

/-- LD E,(HL) (R152). -/
def exec_ld_e_atHL (s : State) : Result := runBase 0x5E (loadFromHL .e) s

/-- LD E,A (R150). -/
def exec_ld_e_a (s : State) : Result := runBase 0x5F (loadReg .e .a) s

/-- LD H,B (R150). -/
def exec_ld_h_b (s : State) : Result := runBase 0x60 (loadReg .h .b) s

/-- LD H,C (R150). -/
def exec_ld_h_c (s : State) : Result := runBase 0x61 (loadReg .h .c) s

/-- LD H,D (R150). -/
def exec_ld_h_d (s : State) : Result := runBase 0x62 (loadReg .h .d) s

/-- LD H,E (R150). -/
def exec_ld_h_e (s : State) : Result := runBase 0x63 (loadReg .h .e) s

/-- LD H,H (R150). -/
def exec_ld_h_h (s : State) : Result := runBase 0x64 (loadReg .h .h) s

/-- LD H,L (R150). -/
def exec_ld_h_l (s : State) : Result := runBase 0x65 (loadReg .h .l) s

/-- LD H,(HL) (R152). -/
def exec_ld_h_atHL (s : State) : Result := runBase 0x66 (loadFromHL .h) s

/-- LD H,A (R150). -/
def exec_ld_h_a (s : State) : Result := runBase 0x67 (loadReg .h .a) s

/-- LD L,B (R150). -/
def exec_ld_l_b (s : State) : Result := runBase 0x68 (loadReg .l .b) s

/-- LD L,C (R150). -/
def exec_ld_l_c (s : State) : Result := runBase 0x69 (loadReg .l .c) s

/-- LD L,D (R150). -/
def exec_ld_l_d (s : State) : Result := runBase 0x6A (loadReg .l .d) s

/-- LD L,E (R150). -/
def exec_ld_l_e (s : State) : Result := runBase 0x6B (loadReg .l .e) s

/-- LD L,H (R150). -/
def exec_ld_l_h (s : State) : Result := runBase 0x6C (loadReg .l .h) s

/-- LD L,L (R150). -/
def exec_ld_l_l (s : State) : Result := runBase 0x6D (loadReg .l .l) s

/-- LD L,(HL) (R152). -/
def exec_ld_l_atHL (s : State) : Result := runBase 0x6E (loadFromHL .l) s

/-- LD L,A (R150). -/
def exec_ld_l_a (s : State) : Result := runBase 0x6F (loadReg .l .a) s

/-- LD (HL),B (R153). -/
def exec_ld_atHL_b (s : State) : Result := runBase 0x70 (storeReg .b) s

/-- LD (HL),C (R153). -/
def exec_ld_atHL_c (s : State) : Result := runBase 0x71 (storeReg .c) s

/-- LD (HL),D (R153). -/
def exec_ld_atHL_d (s : State) : Result := runBase 0x72 (storeReg .d) s

/-- LD (HL),E (R153). -/
def exec_ld_atHL_e (s : State) : Result := runBase 0x73 (storeReg .e) s

/-- LD (HL),H (R153). -/
def exec_ld_atHL_h (s : State) : Result := runBase 0x74 (storeReg .h) s

/-- LD (HL),L (R153). -/
def exec_ld_atHL_l (s : State) : Result := runBase 0x75 (storeReg .l) s

/-- LD (HL),A (R153). -/
def exec_ld_atHL_a (s : State) : Result := runBase 0x77 (storeReg .a) s

/-- LD A,B (R150). -/
def exec_ld_a_b (s : State) : Result := runBase 0x78 (loadReg .a .b) s

/-- LD A,C (R150). -/
def exec_ld_a_c (s : State) : Result := runBase 0x79 (loadReg .a .c) s

/-- LD A,D (R150). -/
def exec_ld_a_d (s : State) : Result := runBase 0x7A (loadReg .a .d) s

/-- LD A,E (R150). -/
def exec_ld_a_e (s : State) : Result := runBase 0x7B (loadReg .a .e) s

/-- LD A,H (R150). -/
def exec_ld_a_h (s : State) : Result := runBase 0x7C (loadReg .a .h) s

/-- LD A,L (R150). -/
def exec_ld_a_l (s : State) : Result := runBase 0x7D (loadReg .a .l) s

/-- LD A,(HL) (R152). -/
def exec_ld_a_atHL (s : State) : Result := runBase 0x7E (loadFromHL .a) s

/-- LD A,A (R150). -/
def exec_ld_a_a (s : State) : Result := runBase 0x7F (loadReg .a .a) s

/-- LDH (a8),A (R161). -/
def exec_ldh_atA8_a (n : Byte) (s : State) : Result := runBase 0xE0 (storeA (highPage n)) s

/-- LD (C),A (R163). -/
def exec_ld_atC_a (s : State) : Result := runBase 0xE2 (fun st => storeA (highPage st.c) st) s

/-- LD (a16),A (R160). -/
def exec_ld_atA16_a (a : Word) (s : State) : Result := runBase 0xEA (storeA a) s

/-- LDH A,(a8) (R162). -/
def exec_ldh_a_atA8 (n : Byte) (s : State) : Result := runBase 0xF0 (loadA (highPage n)) s

/-- LD A,(C) (R164). -/
def exec_ld_a_atC (s : State) : Result := runBase 0xF2 (fun st => loadA (highPage st.c) st) s

/-- LD A,(a16) (R159). -/
def exec_ld_a_atA16 (a : Word) (s : State) : Result := runBase 0xFA (loadA a) s

end Sys2Proof.Machine
end

