-- ==== Sys2Proof/Machine/Misc.lean ====
section
/-!
DEFINITION. NOP, HALT, STOP, DI and EI (spec/47_misc.md R310 to R314): the actions, then one meaning per instruction.
-/

namespace Sys2Proof.Machine

/-- NOP (R310). -/
def noOperation (s : State) : State := s

/-- HALT (R311). -/
def enterHalt (s : State) : State := { s with halted := true }

/-- STOP (R312): the second byte is ignored. -/
def enterStop (_x : Byte) (s : State) : State := enterHalt s

/-- DI (R313). -/
def disableInterrupts (s : State) : State := { s with ime := false }

/-- EI (R314): effective at once. -/
def enableInterrupts (s : State) : State := { s with ime := true }

/-! ## Meanings -/

/-- NOP (R310). -/
def exec_nop (s : State) : Result := runBase 0x00 noOperation s

/-- STOP (R312). -/
def exec_stop (x : Byte) (s : State) : Result := runBase 0x10 (enterStop x) s

/-- HALT (R311). -/
def exec_halt (s : State) : Result := runBase 0x76 enterHalt s

/-- DI (R313). -/
def exec_di (s : State) : Result := runBase 0xF3 disableInterrupts s

/-- EI (R314). -/
def exec_ei (s : State) : Result := runBase 0xFB enableInterrupts s

end Sys2Proof.Machine
end

