-- ==== Sys2Proof/Machine/Shift.lean ====
section
/-!
DEFINITION. The rotates and shifts (spec/45_rotate_shift_bit.md R250 to R269): the actions, then one meaning per
instruction.
-/

namespace Sys2Proof.Machine

/-- RLCA, RRCA, RLA, RRA (R250 to R253): Z is always cleared. -/
def rotateA (op : ShiftOp) (s : State) : State :=
  let x := shiftCompute op s.a s.flagC
  (s.setR .a x.1).setF false false false x.2

/-- The register forms of the 0xCB rotates and shifts (R254 to R268, the even ones). -/
def shiftReg (op : ShiftOp) (r : Reg8) (s : State) : State :=
  let x := shiftFlagged op (s.getR r) s.flagC
  (s.setR r x.res).setFlags x

/-- The (HL) forms of the 0xCB rotates and shifts (R255 to R269, the odd ones): one read and one write. -/
def shiftHL (op : ShiftOp) (s : State) : State :=
  let x := shiftFlagged op (s.readByte s.hl) s.flagC
  (s.writeByte s.hl x.res).setFlags x

/-! ## Meanings -/

/-- RLCA (R250). -/
def exec_rlca (s : State) : Result := runBase 0x07 (rotateA .rlc) s

/-- RRCA (R251). -/
def exec_rrca (s : State) : Result := runBase 0x0F (rotateA .rrc) s

/-- RLA (R252). -/
def exec_rla (s : State) : Result := runBase 0x17 (rotateA .rl) s

/-- RRA (R253). -/
def exec_rra (s : State) : Result := runBase 0x1F (rotateA .rr) s

/-- RLC B (R254). -/
def exec_rlc_b (s : State) : Result := runExt 0x00 (shiftReg .rlc .b) s

/-- RLC C (R254). -/
def exec_rlc_c (s : State) : Result := runExt 0x01 (shiftReg .rlc .c) s

/-- RLC D (R254). -/
def exec_rlc_d (s : State) : Result := runExt 0x02 (shiftReg .rlc .d) s

/-- RLC E (R254). -/
def exec_rlc_e (s : State) : Result := runExt 0x03 (shiftReg .rlc .e) s

/-- RLC H (R254). -/
def exec_rlc_h (s : State) : Result := runExt 0x04 (shiftReg .rlc .h) s

/-- RLC L (R254). -/
def exec_rlc_l (s : State) : Result := runExt 0x05 (shiftReg .rlc .l) s

/-- RLC (HL) (R255). -/
def exec_rlc_atHL (s : State) : Result := runExt 0x06 (shiftHL .rlc) s

/-- RLC A (R254). -/
def exec_rlc_a (s : State) : Result := runExt 0x07 (shiftReg .rlc .a) s

/-- RRC B (R256). -/
def exec_rrc_b (s : State) : Result := runExt 0x08 (shiftReg .rrc .b) s

/-- RRC C (R256). -/
def exec_rrc_c (s : State) : Result := runExt 0x09 (shiftReg .rrc .c) s

/-- RRC D (R256). -/
def exec_rrc_d (s : State) : Result := runExt 0x0A (shiftReg .rrc .d) s

/-- RRC E (R256). -/
def exec_rrc_e (s : State) : Result := runExt 0x0B (shiftReg .rrc .e) s

/-- RRC H (R256). -/
def exec_rrc_h (s : State) : Result := runExt 0x0C (shiftReg .rrc .h) s

/-- RRC L (R256). -/
def exec_rrc_l (s : State) : Result := runExt 0x0D (shiftReg .rrc .l) s

/-- RRC (HL) (R257). -/
def exec_rrc_atHL (s : State) : Result := runExt 0x0E (shiftHL .rrc) s

/-- RRC A (R256). -/
def exec_rrc_a (s : State) : Result := runExt 0x0F (shiftReg .rrc .a) s

/-- RL B (R258). -/
def exec_rl_b (s : State) : Result := runExt 0x10 (shiftReg .rl .b) s

/-- RL C (R258). -/
def exec_rl_c (s : State) : Result := runExt 0x11 (shiftReg .rl .c) s

/-- RL D (R258). -/
def exec_rl_d (s : State) : Result := runExt 0x12 (shiftReg .rl .d) s

/-- RL E (R258). -/
def exec_rl_e (s : State) : Result := runExt 0x13 (shiftReg .rl .e) s

/-- RL H (R258). -/
def exec_rl_h (s : State) : Result := runExt 0x14 (shiftReg .rl .h) s

/-- RL L (R258). -/
def exec_rl_l (s : State) : Result := runExt 0x15 (shiftReg .rl .l) s

/-- RL (HL) (R259). -/
def exec_rl_atHL (s : State) : Result := runExt 0x16 (shiftHL .rl) s

/-- RL A (R258). -/
def exec_rl_a (s : State) : Result := runExt 0x17 (shiftReg .rl .a) s

/-- RR B (R260). -/
def exec_rr_b (s : State) : Result := runExt 0x18 (shiftReg .rr .b) s

/-- RR C (R260). -/
def exec_rr_c (s : State) : Result := runExt 0x19 (shiftReg .rr .c) s

/-- RR D (R260). -/
def exec_rr_d (s : State) : Result := runExt 0x1A (shiftReg .rr .d) s

/-- RR E (R260). -/
def exec_rr_e (s : State) : Result := runExt 0x1B (shiftReg .rr .e) s

/-- RR H (R260). -/
def exec_rr_h (s : State) : Result := runExt 0x1C (shiftReg .rr .h) s

/-- RR L (R260). -/
def exec_rr_l (s : State) : Result := runExt 0x1D (shiftReg .rr .l) s

/-- RR (HL) (R261). -/
def exec_rr_atHL (s : State) : Result := runExt 0x1E (shiftHL .rr) s

/-- RR A (R260). -/
def exec_rr_a (s : State) : Result := runExt 0x1F (shiftReg .rr .a) s

/-- SLA B (R262). -/
def exec_sla_b (s : State) : Result := runExt 0x20 (shiftReg .sla .b) s

/-- SLA C (R262). -/
def exec_sla_c (s : State) : Result := runExt 0x21 (shiftReg .sla .c) s

/-- SLA D (R262). -/
def exec_sla_d (s : State) : Result := runExt 0x22 (shiftReg .sla .d) s

/-- SLA E (R262). -/
def exec_sla_e (s : State) : Result := runExt 0x23 (shiftReg .sla .e) s

/-- SLA H (R262). -/
def exec_sla_h (s : State) : Result := runExt 0x24 (shiftReg .sla .h) s

/-- SLA L (R262). -/
def exec_sla_l (s : State) : Result := runExt 0x25 (shiftReg .sla .l) s

/-- SLA (HL) (R263). -/
def exec_sla_atHL (s : State) : Result := runExt 0x26 (shiftHL .sla) s

/-- SLA A (R262). -/
def exec_sla_a (s : State) : Result := runExt 0x27 (shiftReg .sla .a) s

/-- SRA B (R264). -/
def exec_sra_b (s : State) : Result := runExt 0x28 (shiftReg .sra .b) s

/-- SRA C (R264). -/
def exec_sra_c (s : State) : Result := runExt 0x29 (shiftReg .sra .c) s

/-- SRA D (R264). -/
def exec_sra_d (s : State) : Result := runExt 0x2A (shiftReg .sra .d) s

/-- SRA E (R264). -/
def exec_sra_e (s : State) : Result := runExt 0x2B (shiftReg .sra .e) s

/-- SRA H (R264). -/
def exec_sra_h (s : State) : Result := runExt 0x2C (shiftReg .sra .h) s

/-- SRA L (R264). -/
def exec_sra_l (s : State) : Result := runExt 0x2D (shiftReg .sra .l) s

/-- SRA (HL) (R265). -/
def exec_sra_atHL (s : State) : Result := runExt 0x2E (shiftHL .sra) s

/-- SRA A (R264). -/
def exec_sra_a (s : State) : Result := runExt 0x2F (shiftReg .sra .a) s

/-- SWAP B (R266). -/
def exec_swap_b (s : State) : Result := runExt 0x30 (shiftReg .swap .b) s

/-- SWAP C (R266). -/
def exec_swap_c (s : State) : Result := runExt 0x31 (shiftReg .swap .c) s

/-- SWAP D (R266). -/
def exec_swap_d (s : State) : Result := runExt 0x32 (shiftReg .swap .d) s

/-- SWAP E (R266). -/
def exec_swap_e (s : State) : Result := runExt 0x33 (shiftReg .swap .e) s

/-- SWAP H (R266). -/
def exec_swap_h (s : State) : Result := runExt 0x34 (shiftReg .swap .h) s

/-- SWAP L (R266). -/
def exec_swap_l (s : State) : Result := runExt 0x35 (shiftReg .swap .l) s

/-- SWAP (HL) (R267). -/
def exec_swap_atHL (s : State) : Result := runExt 0x36 (shiftHL .swap) s

/-- SWAP A (R266). -/
def exec_swap_a (s : State) : Result := runExt 0x37 (shiftReg .swap .a) s

/-- SRL B (R268). -/
def exec_srl_b (s : State) : Result := runExt 0x38 (shiftReg .srl .b) s

/-- SRL C (R268). -/
def exec_srl_c (s : State) : Result := runExt 0x39 (shiftReg .srl .c) s

/-- SRL D (R268). -/
def exec_srl_d (s : State) : Result := runExt 0x3A (shiftReg .srl .d) s

/-- SRL E (R268). -/
def exec_srl_e (s : State) : Result := runExt 0x3B (shiftReg .srl .e) s

/-- SRL H (R268). -/
def exec_srl_h (s : State) : Result := runExt 0x3C (shiftReg .srl .h) s

/-- SRL L (R268). -/
def exec_srl_l (s : State) : Result := runExt 0x3D (shiftReg .srl .l) s

/-- SRL (HL) (R269). -/
def exec_srl_atHL (s : State) : Result := runExt 0x3E (shiftHL .srl) s

/-- SRL A (R268). -/
def exec_srl_a (s : State) : Result := runExt 0x3F (shiftReg .srl .a) s

end Sys2Proof.Machine
end

