-- ==== Sys2Proof/Machine/Bridge.lean ====
section
/-!
DEFINITION. The Debug Bridge: introspection, callbacks and the publication of events (spec/60_exceptions.md R410 to
R413, R415; spec/40_engine.md R113; spec/20_memory.md R69).  A script can change the core's memory and the run mode
only (R411).
-/

namespace Sys2Proof.Machine

/-! ## Introspection -/

/-- The 4-character flag string: each letter, or the placeholder when the flag is clear (R415). -/
def State.flagString (s : State) : String :=
  let shown (letter : Char) (flag : Bool) : Char := if flag then letter else s.config.flagPlaceholder
  String.ofList [shown 'Z' s.flagZ, shown 'N' s.flagN, shown 'H' s.flagH, shown 'C' s.flagC]

/-- `cpuState()` (R415). -/
def State.cpuState (s : State) : CpuState :=
  { stackPointer := s.sp, programCounter := s.pc
    a := s.a, b := s.b, c := s.c, d := s.d, e := s.e, f := s.readF, h := s.h, l := s.l
    af := s.getPair .af, bc := s.getPair .bc, de := s.getPair .de, hl := s.getPair .hl
    flags := s.flagString }

/-- `dumpMemory()`: the 65536 bytes, from address 0 (R69). -/
def State.dumpMemory (s : State) : List Byte := (List.range 0x10000).map fun a => s.readByte (BitVec.ofNat 16 a)

/-! ## Callbacks -/

/-- The state with an entry put on the bridge's record, if a bridge is attached. -/
def State.note (r : HostRecord) (s : State) : State :=
  { s with bridge := s.bridge.map fun br => { br with record := br.record ++ [r] } }

/-- One action of a script (R411, R412). -/
def scriptAction (act : ScriptAction) (s : State) : State :=
  match act with
  | .writeByte a v => s.writeByte a v
  | .breakpoint => { s with runMode := .awaitingDebugStep }
  | .dumpMemory => s.note (.memory s.mem)
  | .cpuState => s.note (.cpuState s.cpuState)
  | .raiseError => s.note .errorLogged

/-- The body of one callback: its actions in order, up to an error, which is logged and ends it; what it wrote before
stays written (R413, D32). -/
def runCallback : List ScriptAction → State → State
  | [], s => s
  | .raiseError :: _, s => scriptAction .raiseError s
  | act :: rest, s => runCallback rest (scriptAction act s)

/-- The body of the next callback invocation, from the tape. -/
def Bridge.nextBehaviour (br : Bridge) : List ScriptAction := br.behaviours.headD []

/-- One callback invocation: it takes its body from the tape and runs it. -/
def invokeCallback (s : State) : State :=
  match s.bridge with
  | none => s
  | some br => runCallback br.nextBehaviour { s with bridge := some { br with behaviours := br.behaviours.tail } }

/-- So many callback invocations, one after the other. -/
def invokeCallbacks : Nat → State → State
  | 0, s => s
  | n + 1, s => invokeCallbacks n (invokeCallback s)

/-- The name a script subscribes to for an event (R410). -/
def Event.name : Event → EventName
  | .beforeExecute _ => .beforeExecute
  | .afterExecute _ => .afterExecute
  | .unimplementedOpcode _ => .unimplementedOpcode

/-- The publication of an event: nothing when no bridge is attached; else the bridge is notified, and the callbacks
subscribed to the event run in registration order (R113, R405, R410). -/
def State.fire (e : Event) (s : State) : State :=
  match s.bridge with
  | none => s
  | some br => invokeCallbacks (br.subscriptions.count e.name) (s.note (.event e))

end Sys2Proof.Machine
end

