-- ==== Sys2Proof/Machine/Stall.lean ====
section
/-!
DEFINITION. The stall of a lookup that finds no descriptor (spec/40_engine.md R112; spec/60_exceptions.md R401), and the
meanings of the two constructors that stand for it.
-/

namespace Sys2Proof.Machine

/-- The stall (R112): no register, flag, memory byte, PC or cycle changes; an attached bridge is notified with the byte
that failed the lookup. -/
def stall (key : Byte) (s : State) : State := s.fire (.unimplementedOpcode key)

/-- (illegal) (R95, R112): a base byte without a descriptor. -/
def exec_illegal (b : Byte) (s : State) : Result := .next (stall b s)

/-- PREFIX CB (R111, R112): a prefixed byte without a descriptor; the step has already moved PC past the prefix, and
that is kept. -/
def exec_prefixCb (key : Byte) (s : State) : Result := .next (stall key s)

end Sys2Proof.Machine
end

