-- ==== Sys2Proof/Machine/Fetch.lean ====
section
/-!
DEFINITION. Fetch, lookup and the parts of a step (spec/40_engine.md R110 to R117).
-/

namespace Sys2Proof.Machine

/-- The state with PC at `op_addr`: past the prefix, if the byte at PC is the prefix (R111, R114). -/
def State.atOpAddr (s : State) : State :=
  if s.readByte s.pc = 0xCB then { s with pc := s.pc + 1 } else s

/-- The key the step looks up: the byte at PC in the base table, or after the prefix the next byte in the extended
table (R111). -/
def State.fetchKey (s : State) : OpKey :=
  if s.readByte s.pc = 0xCB then .ext (s.readByte (s.pc + 1)) else .base (s.readByte s.pc)

/-- The three bytes from PC on, modulo 0x10000: as long as the longest instruction (R54, R80). -/
def State.bytesAtPc (s : State) : List Byte := [s.readByte s.pc, s.readByte (s.pc + 1), s.readByte (s.pc + 2)]

/-- The instruction of a key at a state whose PC is `op_addr`: its operand bytes are read now, at `op_addr + 1` and
`op_addr + 2` (R86, R87, R114). -/
def State.instrAt (k : OpKey) (s : State) : Instr :=
  decodeKey s.config (s.readByte (s.pc + 1)) (s.readByte (s.pc + 2)) k

/-- What the next step does (R405; D22). -/
def State.report (s : State) : StepReport :=
  if s.halted then .halted
  else if s.config.has s.fetchKey then .executed s.fetchKey
  else .stalled s.fetchKey.byte

/-- The publication of `after_execute` once an instruction has completed (R113). -/
def fireAfter (v : DebugView) : Result → Result
  | .next s => .next (s.fire (.afterExecute v))
  | .fault r => .fault r
  | .refused r => .refused r

/-- A step that found a descriptor, at a state whose PC is `op_addr`: the before callback, the instruction with its
operands as memory then holds them, the after callback (R110, R113). -/
def executeKey (k : OpKey) (s : State) : Result :=
  let s1 := s.fire (.beforeExecute (debugView s.config k))
  fireAfter (debugView s.config k) (exec (s1.instrAt k) s1)

/-- One whole step that is not halted (R110). -/
def stepRunning (s : State) : Result :=
  if s.config.has s.fetchKey then executeKey s.fetchKey s.atOpAddr
  else exec (s.atOpAddr.instrAt s.fetchKey) s.atOpAddr

/-- The launch parameters with a descriptor put into the tables at a key. -/
def addDescriptor (c : Config) (k : OpKey) : Config :=
  { c with
    absentBase := c.absentBase.filter fun b => OpKey.base b != k
    absentExt := c.absentExt.filter fun b => OpKey.ext b != k }

/-- The state with a row's bytes stored at PC, not halted, and with the row's descriptor present: the next step fetches
and runs that instruction. -/
def placeInstr (nbits w : Nat) (s : State) : State :=
  let s1 := { s with mem := s.mem.writeBytes s.pc (tableBytes nbits (w % 2 ^ nbits)), halted := false }
  { s1 with config := addDescriptor s1.config s1.fetchKey }

end Sys2Proof.Machine
end

