-- ==== Sys2Proof/Machine/Step.lean ====
section
/-!
DEFINITION. The one transition of the core (spec/40_engine.md R110).
-/

namespace Sys2Proof.Machine

/-- `step()` (R110): a halted step does nothing (R117); otherwise one instruction, or a stall. -/
def step (s : State) : Host.Outcome State Fault Refusal :=
  if s.halted then .next s else stepRunning s

/-- `s` with the instruction of an opcode-table row stored where the next step fetches. -/
def State.withFetchWord (s : State) (nbits w : Nat) : State := placeInstr nbits w s

end Sys2Proof.Machine
end

