-- ==== Sys2Proof/Machine/Families.lean ====
section
/-!
DEFINITION. The instruction families of spec/30_encoding.md R93 and R94 as functions of their operand fields: which
constructor of `Instr` stands for LD r,r' with given registers, ADD with a given operand, BIT with a given bit and
register, and so on.  Statements about a whole family are made through them.
-/

namespace Sys2Proof.Machine

/-- One of seven values, by the register. -/
def pickReg {α : Type} (r : Reg8) (b c d e h l a : α) : α :=
  match r with
  | .b => b | .c => c | .d => d | .e => e | .h => h | .l => l | .a => a

/-- One of eight values, by a 3-bit field. -/
def pickBit {α : Type} (n : Fin 8) (x0 x1 x2 x3 x4 x5 x6 x7 : α) : α :=
  match n with
  | 0 => x0 | 1 => x1 | 2 => x2 | 3 => x3 | 4 => x4 | 5 => x5 | 6 => x6 | 7 => x7

/-- One of four values, by the condition. -/
def pickCond {α : Type} (cc : Cond) (nz z nc c : α) : α :=
  match cc with
  | .nz => nz | .z => z | .nc => nc | .c => c

/-- One of four values, by the 16-bit operand. -/
def pickReg16 {α : Type} (rr : Reg16) (bc de hl sp : α) : α :=
  match rr with
  | .bc => bc | .de => de | .hl => hl | .sp => sp

/-- One of four values, by the pair. -/
def pickPair {α : Type} (p : Pair) (bc de hl af : α) : α :=
  match p with
  | .bc => bc | .de => de | .hl => hl | .af => af

/-- LD d,r (R150). -/
def instrLdRegReg (dst r : Reg8) : Instr :=
  match dst with
  | .b => pickReg r .ld_b_b .ld_b_c .ld_b_d .ld_b_e .ld_b_h .ld_b_l .ld_b_a
  | .c => pickReg r .ld_c_b .ld_c_c .ld_c_d .ld_c_e .ld_c_h .ld_c_l .ld_c_a
  | .d => pickReg r .ld_d_b .ld_d_c .ld_d_d .ld_d_e .ld_d_h .ld_d_l .ld_d_a
  | .e => pickReg r .ld_e_b .ld_e_c .ld_e_d .ld_e_e .ld_e_h .ld_e_l .ld_e_a
  | .h => pickReg r .ld_h_b .ld_h_c .ld_h_d .ld_h_e .ld_h_h .ld_h_l .ld_h_a
  | .l => pickReg r .ld_l_b .ld_l_c .ld_l_d .ld_l_e .ld_l_h .ld_l_l .ld_l_a
  | .a => pickReg r .ld_a_b .ld_a_c .ld_a_d .ld_a_e .ld_a_h .ld_a_l .ld_a_a

/-- LD r,d8 (R151). -/
def instrLdRegImm (r : Reg8) (n : Byte) : Instr :=
  pickReg r (.ld_b_d8 n) (.ld_c_d8 n) (.ld_d_d8 n) (.ld_e_d8 n) (.ld_h_d8 n) (.ld_l_d8 n) (.ld_a_d8 n)

/-- LD r,(HL) (R152). -/
def instrLdRegAtHL (r : Reg8) : Instr :=
  pickReg r .ld_b_atHL .ld_c_atHL .ld_d_atHL .ld_e_atHL .ld_h_atHL .ld_l_atHL .ld_a_atHL

/-- LD (HL),r (R153). -/
def instrLdAtHLReg (r : Reg8) : Instr :=
  pickReg r .ld_atHL_b .ld_atHL_c .ld_atHL_d .ld_atHL_e .ld_atHL_h .ld_atHL_l .ld_atHL_a

/-- LD rr,d16 (R180). -/
def instrLdPairImm (rr : Reg16) (w : Word) : Instr :=
  pickReg16 rr (.ld_bc_d16 w) (.ld_de_d16 w) (.ld_hl_d16 w) (.ld_sp_d16 w)

/-- PUSH rr (R184). -/
def instrPush (p : Pair) : Instr := pickPair p .push_bc .push_de .push_hl .push_af

/-- POP rr and POP AF (R185, R186). -/
def instrPop (p : Pair) : Instr := pickPair p .pop_bc .pop_de .pop_hl .pop_af

/-- The eight ALU operations with their three operand forms (R200 to R223). -/
def instrAlu (op : AluOp) (src : Source) : Instr :=
  match op, src with
  | .add, .reg r => pickReg r .add_a_b .add_a_c .add_a_d .add_a_e .add_a_h .add_a_l .add_a_a
  | .add, .atHL => .add_a_atHL
  | .add, .imm n => .add_a_d8 n
  | .adc, .reg r => pickReg r .adc_a_b .adc_a_c .adc_a_d .adc_a_e .adc_a_h .adc_a_l .adc_a_a
  | .adc, .atHL => .adc_a_atHL
  | .adc, .imm n => .adc_a_d8 n
  | .sub, .reg r => pickReg r .sub_b .sub_c .sub_d .sub_e .sub_h .sub_l .sub_a
  | .sub, .atHL => .sub_atHL
  | .sub, .imm n => .sub_d8 n
  | .sbc, .reg r => pickReg r .sbc_a_b .sbc_a_c .sbc_a_d .sbc_a_e .sbc_a_h .sbc_a_l .sbc_a_a
  | .sbc, .atHL => .sbc_a_atHL
  | .sbc, .imm n => .sbc_a_d8 n
  | .and, .reg r => pickReg r .and_b .and_c .and_d .and_e .and_h .and_l .and_a
  | .and, .atHL => .and_atHL
  | .and, .imm n => .and_d8 n
  | .xor, .reg r => pickReg r .xor_b .xor_c .xor_d .xor_e .xor_h .xor_l .xor_a
  | .xor, .atHL => .xor_atHL
  | .xor, .imm n => .xor_d8 n
  | .or, .reg r => pickReg r .or_b .or_c .or_d .or_e .or_h .or_l .or_a
  | .or, .atHL => .or_atHL
  | .or, .imm n => .or_d8 n
  | .cp, .reg r => pickReg r .cp_b .cp_c .cp_d .cp_e .cp_h .cp_l .cp_a
  | .cp, .atHL => .cp_atHL
  | .cp, .imm n => .cp_d8 n

/-- INC r (R224). -/
def instrIncReg (r : Reg8) : Instr := pickReg r .inc_b .inc_c .inc_d .inc_e .inc_h .inc_l .inc_a

/-- DEC r (R226). -/
def instrDecReg (r : Reg8) : Instr := pickReg r .dec_b .dec_c .dec_d .dec_e .dec_h .dec_l .dec_a

/-- ADD HL,rr (R240). -/
def instrAddHL (rr : Reg16) : Instr := pickReg16 rr .add_hl_bc .add_hl_de .add_hl_hl .add_hl_sp

/-- INC rr (R241). -/
def instrIncPair (rr : Reg16) : Instr := pickReg16 rr .inc_bc .inc_de .inc_hl .inc_sp

/-- DEC rr (R242). -/
def instrDecPair (rr : Reg16) : Instr := pickReg16 rr .dec_bc .dec_de .dec_hl .dec_sp

/-- The register forms of the 0xCB rotates and shifts (R254 to R268, the even ones). -/
def instrShiftReg (op : ShiftOp) (r : Reg8) : Instr :=
  match op with
  | .rlc => pickReg r .rlc_b .rlc_c .rlc_d .rlc_e .rlc_h .rlc_l .rlc_a
  | .rrc => pickReg r .rrc_b .rrc_c .rrc_d .rrc_e .rrc_h .rrc_l .rrc_a
  | .rl => pickReg r .rl_b .rl_c .rl_d .rl_e .rl_h .rl_l .rl_a
  | .rr => pickReg r .rr_b .rr_c .rr_d .rr_e .rr_h .rr_l .rr_a
  | .sla => pickReg r .sla_b .sla_c .sla_d .sla_e .sla_h .sla_l .sla_a
  | .sra => pickReg r .sra_b .sra_c .sra_d .sra_e .sra_h .sra_l .sra_a
  | .swap => pickReg r .swap_b .swap_c .swap_d .swap_e .swap_h .swap_l .swap_a
  | .srl => pickReg r .srl_b .srl_c .srl_d .srl_e .srl_h .srl_l .srl_a

/-- The (HL) forms of the 0xCB rotates and shifts (R255 to R269, the odd ones). -/
def instrShiftAtHL (op : ShiftOp) : Instr :=
  match op with
  | .rlc => .rlc_atHL
  | .rrc => .rrc_atHL
  | .rl => .rl_atHL
  | .rr => .rr_atHL
  | .sla => .sla_atHL
  | .sra => .sra_atHL
  | .swap => .swap_atHL
  | .srl => .srl_atHL

/-- BIT b,r (R270). -/
def instrBitReg (n : Fin 8) (r : Reg8) : Instr :=
  pickBit n
    (pickReg r .bit_0_b .bit_0_c .bit_0_d .bit_0_e .bit_0_h .bit_0_l .bit_0_a)
    (pickReg r .bit_1_b .bit_1_c .bit_1_d .bit_1_e .bit_1_h .bit_1_l .bit_1_a)
    (pickReg r .bit_2_b .bit_2_c .bit_2_d .bit_2_e .bit_2_h .bit_2_l .bit_2_a)
    (pickReg r .bit_3_b .bit_3_c .bit_3_d .bit_3_e .bit_3_h .bit_3_l .bit_3_a)
    (pickReg r .bit_4_b .bit_4_c .bit_4_d .bit_4_e .bit_4_h .bit_4_l .bit_4_a)
    (pickReg r .bit_5_b .bit_5_c .bit_5_d .bit_5_e .bit_5_h .bit_5_l .bit_5_a)
    (pickReg r .bit_6_b .bit_6_c .bit_6_d .bit_6_e .bit_6_h .bit_6_l .bit_6_a)
    (pickReg r .bit_7_b .bit_7_c .bit_7_d .bit_7_e .bit_7_h .bit_7_l .bit_7_a)

/-- BIT b,(HL) (R271). -/
def instrBitAtHL (n : Fin 8) : Instr :=
  pickBit n .bit_0_atHL .bit_1_atHL .bit_2_atHL .bit_3_atHL .bit_4_atHL .bit_5_atHL .bit_6_atHL .bit_7_atHL

/-- RES b,r (R272). -/
def instrResReg (n : Fin 8) (r : Reg8) : Instr :=
  pickBit n
    (pickReg r .res_0_b .res_0_c .res_0_d .res_0_e .res_0_h .res_0_l .res_0_a)
    (pickReg r .res_1_b .res_1_c .res_1_d .res_1_e .res_1_h .res_1_l .res_1_a)
    (pickReg r .res_2_b .res_2_c .res_2_d .res_2_e .res_2_h .res_2_l .res_2_a)
    (pickReg r .res_3_b .res_3_c .res_3_d .res_3_e .res_3_h .res_3_l .res_3_a)
    (pickReg r .res_4_b .res_4_c .res_4_d .res_4_e .res_4_h .res_4_l .res_4_a)
    (pickReg r .res_5_b .res_5_c .res_5_d .res_5_e .res_5_h .res_5_l .res_5_a)
    (pickReg r .res_6_b .res_6_c .res_6_d .res_6_e .res_6_h .res_6_l .res_6_a)
    (pickReg r .res_7_b .res_7_c .res_7_d .res_7_e .res_7_h .res_7_l .res_7_a)

/-- RES b,(HL) (R273). -/
def instrResAtHL (n : Fin 8) : Instr :=
  pickBit n .res_0_atHL .res_1_atHL .res_2_atHL .res_3_atHL .res_4_atHL .res_5_atHL .res_6_atHL .res_7_atHL

/-- SET b,r (R274). -/
def instrSetReg (n : Fin 8) (r : Reg8) : Instr :=
  pickBit n
    (pickReg r .set_0_b .set_0_c .set_0_d .set_0_e .set_0_h .set_0_l .set_0_a)
    (pickReg r .set_1_b .set_1_c .set_1_d .set_1_e .set_1_h .set_1_l .set_1_a)
    (pickReg r .set_2_b .set_2_c .set_2_d .set_2_e .set_2_h .set_2_l .set_2_a)
    (pickReg r .set_3_b .set_3_c .set_3_d .set_3_e .set_3_h .set_3_l .set_3_a)
    (pickReg r .set_4_b .set_4_c .set_4_d .set_4_e .set_4_h .set_4_l .set_4_a)
    (pickReg r .set_5_b .set_5_c .set_5_d .set_5_e .set_5_h .set_5_l .set_5_a)
    (pickReg r .set_6_b .set_6_c .set_6_d .set_6_e .set_6_h .set_6_l .set_6_a)
    (pickReg r .set_7_b .set_7_c .set_7_d .set_7_e .set_7_h .set_7_l .set_7_a)

/-- SET b,(HL) (R275). -/
def instrSetAtHL (n : Fin 8) : Instr :=
  pickBit n .set_0_atHL .set_1_atHL .set_2_atHL .set_3_atHL .set_4_atHL .set_5_atHL .set_6_atHL .set_7_atHL

/-- JP cc,a16 (R291). -/
def instrJpCond (cc : Cond) (a : Word) : Instr :=
  pickCond cc (.jp_nz_a16 a) (.jp_z_a16 a) (.jp_nc_a16 a) (.jp_c_a16 a)

/-- JR cc,e8 (R294). -/
def instrJrCond (cc : Cond) (e : Byte) : Instr := pickCond cc (.jr_nz_e8 e) (.jr_z_e8 e) (.jr_nc_e8 e) (.jr_c_e8 e)

/-- CALL cc,a16 (R296). -/
def instrCallCond (cc : Cond) (a : Word) : Instr :=
  pickCond cc (.call_nz_a16 a) (.call_z_a16 a) (.call_nc_a16 a) (.call_c_a16 a)

/-- RET cc (R298). -/
def instrRetCond (cc : Cond) : Instr := pickCond cc .ret_nz .ret_z .ret_nc .ret_c

/-- RST t for the target field y, t = 8 * y (R300). -/
def instrRst (y : Fin 8) : Instr :=
  pickBit y .rst_00h .rst_08h .rst_10h .rst_18h .rst_20h .rst_28h .rst_30h .rst_38h

/-- The length of an ALU instruction with a given operand form (spec/43_alu8.md). -/
def sourceLength : Source → Word
  | .reg _ => 1
  | .atHL => 1
  | .imm _ => 2

end Sys2Proof.Machine
end

