-- ==== Sys2Proof/Machine/Loop.lean ====
section
/-!
DEFINITION. The host around the step: the controller's signals, the driving loop and `HALT_WAKE`
(spec/60_exceptions.md R412, R414, R416; spec/70_reset_and_hazards.md R457, R458).
-/

namespace Sys2Proof.Machine

/-- Whether the driving loop is waiting for a signal (R412). -/
def State.waiting (s : State) : Bool := s.runMode == .awaitingDebugStep

/-- `requestNext()`: a Step signal.  Sent while the loop is not waiting it has no effect of its own and may be kept in
its slot or dropped; `keep` says which (D31, I10; log 12). -/
def requestNext (keep : Bool) (s : State) : State :=
  if s.waiting || keep then { s with stepSignal := true } else s

/-- `requestContinue()`: a Continue signal; `keep` as for `requestNext`. -/
def requestContinue (keep : Bool) (s : State) : State :=
  if s.waiting || keep then { s with continueSignal := true } else s

/-- A Step signal taken: exactly one `step()`, then waiting again (R412). -/
def takeStep (s : State) : Result := step { s with stepSignal := false }

/-- A Continue signal taken: the awaiting state is cleared (R412). -/
def takeContinue (s : State) : Result := .next { s with continueSignal := false, runMode := .running }

/-- One turn of the driving loop (R412, R457): running, it calls `step`; waiting, it serves a signal, or polls.
`stepFirst` says which of two waiting signals is served first, which the spec leaves open (log 12). -/
def loopTurn (stepFirst : Bool) (s : State) : Result :=
  if !s.waiting then step s
  else if s.stepSignal && (stepFirst || !s.continueSignal) then takeStep s
  else if s.continueSignal then takeContinue s
  else .next s

/-- `HALT_WAKE`, between steps (R414). -/
def haltWake (s : State) : State := { s with halted := false }

end Sys2Proof.Machine
end

