-- ==== Sys2Proof/Machine/Startup.lean ====
section
/-!
DEFINITION. The startup sequence (spec/70_reset_and_hazards.md R450 to R452; spec/20_memory.md R61, R67, R68): every
launch input of spec/00_scope.md R7 as plain data, and the state it leaves or the typed failure it gives.
-/

namespace Sys2Proof.Machine

/-- Why a startup aborts before any step (R451). -/
inductive StartupError where
  /-- A boot or ROM image cannot be read. -/
  | ioError
  /-- The boot image has more than 256 bytes. -/
  | validationError
  /-- The debug script fails to load. -/
  | scriptError
  /-- No ROM path is given: usage is printed. -/
  | usage
  deriving DecidableEq, Repr

/-- What reading an image file gives. -/
inductive ImageFile where
  | unreadable
  | bytes (image : List Byte)
  deriving DecidableEq, Repr

/-- What a debug script does while it is loaded and run, before any step (R450 step 4): it subscribes a callback
(R410), writes a single byte, or reads memory (R61, R69). -/
inductive LoadAction where
  | subscribe (event : EventName)
  | writeByte (address : Word) (value : Byte)
  | dumpMemory
  deriving DecidableEq, Repr

/-- What loading the debug script gives: a failure, or the actions of its load, in order (R450), and the bodies of the
callback invocations to come (log 10). -/
inductive DebugScript where
  | loadFailure
  | loaded (actions : List LoadAction) (behaviours : List (List ScriptAction))
  deriving DecidableEq, Repr

/-- `RESET_REGS` (R7, R36): A, B, C, D, E, H, L, the four flags and SP at start. -/
structure ResetRegs where
  a : Byte
  b : Byte
  c : Byte
  d : Byte
  e : Byte
  h : Byte
  l : Byte
  z : Bool
  n : Bool
  hf : Bool
  cf : Bool
  sp : Word
  deriving DecidableEq, Repr

/-- The launch inputs (R7, R450). -/
structure Launch where
  config : Config
  /-- The ROM image; where its bytes land is part of `initMem` (R67).  `none`: no path was given. -/
  rom : Option ImageFile
  /-- `INIT_MEM`, the byte at address 0 first; bytes past its end are what an unlisted address reads as (log 5). -/
  initMem : List Byte
  /-- The boot image, if `--bootstrap` is given. -/
  boot : Option ImageFile
  /-- The debug script, if `--debug` is given. -/
  debug : Option DebugScript
  resetPc : Word
  resetRegs : ResetRegs
  deriving DecidableEq, Repr

/-- The memory that holds `INIT_MEM` (R67). -/
def initialMemory (bytes : List Byte) : Memory := Memory.writeBytes [] 0 (bytes.take 0x10000)

/-- `loadImage` (R68): at most 256 bytes, written at address 0. -/
def loadImage (file : ImageFile) (m : Memory) : Except StartupError Memory :=
  match file with
  | .unreadable => .error .ioError
  | .bytes image => if image.length > 256 then .error .validationError else .ok (m.writeBytes 0 image)

/-- Step 3 of R450: the boot image is laid over memory and PC is 0; without one PC is `RESET_PC`. -/
def bootMemory (boot : Option ImageFile) (resetPc : Word) (m : Memory) : Except StartupError (Memory × Word) :=
  match boot with
  | none => .ok (m, resetPc)
  | some file =>
    match loadImage file m with
    | .error e => .error e
    | .ok m' => .ok (m', 0)

/-- One action of a script's load, on memory and the bridge being attached (R61, R69, R410). -/
def loadAction (act : LoadAction) (m : Memory) (br : Bridge) : Memory × Bridge :=
  match act with
  | .subscribe e => (m, { br with subscriptions := br.subscriptions ++ [e] })
  | .writeByte a v => (m.write a v, br)
  | .dumpMemory => (m, { br with record := br.record ++ [.memory m] })

/-- The load of a script: its actions in order, each at memory as the ones before it left it (R61, R62). -/
def runLoad : List LoadAction → Memory → Bridge → Memory × Bridge
  | [], m, br => (m, br)
  | act :: rest, m, br => runLoad rest (loadAction act m br).1 (loadAction act m br).2

/-- Step 4 of R450: the memory a debug script's load leaves, and the bridge it attaches. -/
def attachDebug (debug : Option DebugScript) (m : Memory) : Except StartupError (Memory × Option Bridge) :=
  match debug with
  | none => .ok (m, none)
  | some .loadFailure => .error .scriptError
  | some (.loaded actions behaviours) =>
    match runLoad actions m { subscriptions := [], behaviours := behaviours, record := [] } with
    | (m', br) => .ok (m', some br)

/-- The ROM file's own failures (R451). -/
def romReadable (rom : Option ImageFile) : Except StartupError Unit :=
  match rom with
  | none => .error .usage
  | some .unreadable => .error .ioError
  | some (.bytes _) => .ok ()

/-- The state after steps 1 to 5 of R450. -/
def startState (p : Launch) (m : Memory) (pc : Word) (bridge : Option Bridge) : State :=
  { a := p.resetRegs.a
    f := packFlags p.resetRegs.z p.resetRegs.n p.resetRegs.hf p.resetRegs.cf
    b := p.resetRegs.b
    c := p.resetRegs.c
    d := p.resetRegs.d
    e := p.resetRegs.e
    h := p.resetRegs.h
    l := p.resetRegs.l
    sp := p.resetRegs.sp
    pc := pc
    cycles := 0
    ime := false
    halted := false
    mem := m
    runMode := .running
    stepSignal := false
    continueSignal := false
    bridge := bridge
    config := p.config }

/-- The startup sequence (R450), or the failure that aborts it (R451). -/
def startup (p : Launch) : Except StartupError State :=
  match romReadable p.rom with
  | .error e => .error e
  | .ok _ =>
    match bootMemory p.boot p.resetPc (initialMemory p.initMem) with
    | .error e => .error e
    | .ok (m, pc) =>
      match attachDebug p.debug m with
      | .error e => .error e
      | .ok (m', bridge) => .ok (startState p m' pc bridge)

/-- The launch whose start is `State.reset`: the defaults of R7, an empty ROM file, and zero for every input R7 leaves
open (log 3, log 4, log 5). -/
def plainLaunch : Launch :=
  { config := {}
    rom := some (.bytes [])
    initMem := []
    boot := none
    debug := none
    resetPc := 0
    resetRegs :=
      { a := 0, b := 0, c := 0, d := 0, e := 0, h := 0, l := 0
        z := false, n := false, hf := false, cf := false, sp := 0 } }

end Sys2Proof.Machine
end

