-- ==== Sys2Proof/Safety.lean ====
section
/-!
DEFINITION. The terms claims are stated in: the state invariant, the end of a run (spec/70_reset_and_hazards.md R460),
what a debug script's load does to memory and to the bridge, and what a step or an instruction leaves unchanged.
-/

namespace Sys2Proof.Machine

/-- The invariant of the machine: memory is in canonical form, and F[3:0] is 0 (spec/10_state.md R25). -/
abbrev State.Inv (s : State) : Prop := s.mem.wf ∧ s.f &&& 0x0F = 0

/-- The final state of a run under the default platform, which gives no `HALT_WAKE` (R460). -/
def State.final (s : State) : Prop := s.halted = true

/-- The next `n` steps stall, one after the other, when no bridge is attached through which the host could write
memory (R401). -/
def State.stallsFor : Nat → State → Prop
  | 0, _ => True
  | n + 1, s => (∃ key, s.report = .stalled key) ∧ ∀ t, step { s with bridge := none } = .next t → t.stallsFor n

/-- A state at which the step stalls and, without a host write, every later step stalls too; it is not final (R401,
R460).  A prefixed stall whose next byte has a base descriptor is not stuck. -/
def State.stuck (s : State) : Prop := ∀ n, s.stallsFor n

/-- The bytes a debug script writes while it is loaded, in order (R61). -/
def DebugScript.loadWrites : Option DebugScript → List (Word × Byte)
  | some (.loaded actions _) => actions.filterMap fun
    | .writeByte a v => some (a, v)
    | _ => none
  | _ => []

/-- The events a debug script subscribes to while it is loaded, in registration order (R410, R452). -/
def DebugScript.loadSubscriptions : DebugScript → List EventName
  | .loaded actions _ => actions.filterMap fun
    | .subscribe e => some e
    | _ => none
  | .loadFailure => []

/-! ## What stays as it was -/

/-- Every 8-bit register but the listed ones is unchanged; F is not among them. -/
def SameRegs (but : List Reg8) (s t : State) : Prop := ∀ r : Reg8, r ∉ but → t.getR r = s.getR r

/-- Every byte of memory is unchanged but those at the listed addresses. -/
def SameMem (but : List Word) (s t : State) : Prop := ∀ a : Word, a ∉ but → t.readByte a = s.readByte a

/-- IME, `halted` and everything on the host side are unchanged: run mode, signals, bridge and launch parameters. -/
def SameControl (s t : State) : Prop :=
  t.ime = s.ime ∧ t.halted = s.halted ∧ t.runMode = s.runMode ∧ t.stepSignal = s.stepSignal ∧
    t.continueSignal = s.continueSignal ∧ t.bridge = s.bridge ∧ t.config = s.config

/-- Every 8-bit register but the listed ones, every byte of memory but those at the listed addresses, and everything
of `SameControl` is unchanged. -/
def Keeps (regs : List Reg8) (stored : List Word) (s t : State) : Prop :=
  SameRegs regs s t ∧ SameMem stored s t ∧ SameControl s t

/-- A and every 16-bit register but the listed ones, all of memory, and everything of `SameControl` are unchanged. -/
def KeepsPairs (but : List Reg16) (s t : State) : Prop :=
  t.a = s.a ∧ (∀ q : Reg16, q ∉ but → t.getReg16 q = s.getReg16 q) ∧ SameMem [] s t ∧ SameControl s t

/-- The flags Z, N, H and C of a state are these, and F[3:0] reads 0. -/
def FlagsAre (t : State) (z n h c : Bool) : Prop :=
  t.flagZ = z ∧ t.flagN = n ∧ t.flagH = h ∧ t.flagC = c ∧ t.readF &&& 0x0F = 0

/-- A descriptor that is not self-managed has completed: PC has moved on by `len`, modulo 0x10000, and its cost is
counted (spec/40_engine.md R115, R116). -/
def Completed (i : Instr) (len : Word) (s t : State) : Prop :=
  t.pc = s.pc + len ∧ t.cycles = s.cycles + cost s.config i.key

/-- A self-managed descriptor has completed: PC is `target`, and its cost is counted, taken or not
(spec/40_engine.md R115, R116). -/
def WentTo (i : Instr) (target : Word) (s t : State) : Prop :=
  t.pc = target ∧ t.cycles = s.cycles + cost s.config i.key

/-! ## Shapes several instructions share -/

/-- `i` loads A from the byte at `addr` and changes nothing else. -/
def LoadsA (i : Instr) (addr : Word) (len : Word) (s : State) : Prop :=
  ∃ t, exec i s = .next t ∧ t.a = s.readByte addr ∧ t.f = s.f ∧ t.sp = s.sp ∧ Keeps [.a] [] s t ∧ Completed i len s t

/-- `i` stores `v` in the byte at `addr` and changes nothing else. -/
def StoresByte (i : Instr) (addr : Word) (v : Byte) (len : Word) (s : State) : Prop :=
  ∃ t, exec i s = .next t ∧ t.readByte addr = v ∧ t.f = s.f ∧ t.sp = s.sp ∧ Keeps [] [addr] s t ∧ Completed i len s t

/-- `i` sets PC to `target` and changes nothing else. -/
def Jumps (i : Instr) (target : Word) (s : State) : Prop :=
  ∃ t, exec i s = .next t ∧ t.f = s.f ∧ t.sp = s.sp ∧ Keeps [] [] s t ∧ WentTo i target s t

/-- `i` pushes `ret`, the high byte at SP - 1 and the low byte at SP - 2, sets PC to `target`, and changes nothing
else. -/
def PushesAndJumps (i : Instr) (ret target : Word) (s : State) : Prop :=
  ∃ t, exec i s = .next t ∧ t.sp = s.sp - 2 ∧ t.readByte (s.sp - 1) = hiByte ret ∧
    t.readByte (s.sp - 2) = loByte ret ∧ t.f = s.f ∧ Keeps [] [s.sp - 1, s.sp - 2] s t ∧ WentTo i target s t

/-- `i` pops PC from the stack and changes nothing else. -/
def Returns (i : Instr) (s : State) : Prop :=
  ∃ t, exec i s = .next t ∧ t.sp = s.sp + 2 ∧ t.f = s.f ∧ Keeps [] [] s t ∧ WentTo i (s.readWord s.sp) s t

/-- The bytes of an ALU instruction (spec/43_alu8.md): `10ooorrr` with r = 6 for (HL), or `11ooo110` and d8. -/
def aluBytes (op : AluOp) : Source → List Byte
  | .reg r => [0x80 ||| op.code <<< 3 ||| r.code]
  | .atHL => [0x86 ||| op.code <<< 3]
  | .imm n => [0xC6 ||| op.code <<< 3, n]

/-- The functions of spec/40_engine.md R137 and R138 on integers: the result of a byte `v` and a carry `c`, each as a
number, and the new carry. -/
def shiftOnNat (op : ShiftOp) (v c : Nat) : Nat × Bool :=
  match op with
  | .rlc => ((2 * v + v / 128) % 256, decide (128 ≤ v))
  | .rrc => (v / 2 + 128 * (v % 2), decide (v % 2 = 1))
  | .rl => ((2 * v + c) % 256, decide (128 ≤ v))
  | .rr => (v / 2 + 128 * c, decide (v % 2 = 1))
  | .sla => (2 * v % 256, decide (128 ≤ v))
  | .sra => (v / 2 + 128 * (v / 128), decide (v % 2 = 1))
  | .swap => (16 * (v % 16) + v / 16, false)
  | .srl => (v / 2, decide (v % 2 = 1))

end Sys2Proof.Machine
end

