-- ==== Sys2Proof/WellFormed.lean ====
section
/-!
DEFINITION. Which instruction terms stand for bytes the decoder reads under a given choice of `IMPLEMENTED`
(spec/00_scope.md R6, R7; spec/30_encoding.md R95, R96).
-/

namespace Sys2Proof

/-- The checks on an instruction term, under the tables of `c`:
an `illegal` byte has no base descriptor and is not the prefix (R95, R111);
a `prefixCb` key has no extended descriptor (R112);
every other instruction has its descriptor in the tables (R6). -/
def Instr.wellFormed (c : Config) (i : Instr) : Bool :=
  match i with
  | .illegal b => !c.has (.base b) && b != 0xCB
  | .prefixCb k => !c.has (.ext k)
  | j => c.has j.key

end Sys2Proof
end

