-- ==== Sys2Proof/Certificates/Slice0/Obligations.lean ====
section
/-!
DEFINITION. The statements for the provers.  Each docstring names the rules of spec/ it formalises.  The meanings run at
a state whose PC is `op_addr` (R114); `StepRunsDecodedInstruction` carries every statement about `exec` to a step.
-/

open Sys2Proof Sys2Proof.Machine

/-! ## Encoding -/

/-- R80, R92 to R95: the decoder gives back every well-formed instruction the encoder wrote, whatever bytes follow and
whatever descriptors `IMPLEMENTED` holds. -/
def Obligations.DecodeOfEncode : Prop :=
  ∀ (c : Config) (i : Instr) (rest : List Byte), i.wellFormed c = true → decode c (encode i ++ rest) = .ok (i, rest)

/-- R80, R92 to R96, R98: every list of bytes the decoder reads is the encoding of the well-formed instruction it gives,
then the bytes it leaves; no two lists of opcode bytes give one instruction. -/
def Obligations.EncodeOfDecode : Prop :=
  ∀ (c : Config) (bytes : List Byte) (i : Instr) (rest : List Byte), decode c bytes = .ok (i, rest) →
    i.wellFormed c = true ∧ encode i ++ rest = bytes

/-- R93, R94, R95: bytes written out from the maps, one or more for each family, decode to the instruction they stand
for.  R95 says that 0xD3 is not an instruction: that the decoder gives the constructor `illegal` for it is the model's
choice (log 9). -/
def Obligations.SpecBytesDecode : Prop :=
  decode {} [0x41] = .ok (.ld_b_c, []) ∧ decode {} [0x3E, 0x9A] = .ok (.ld_a_d8 0x9A, []) ∧
  decode {} [0x31, 0xFE, 0xFF] = .ok (.ld_sp_d16 0xFFFE, []) ∧ decode {} [0xF5] = .ok (.push_af, []) ∧
  decode {} [0x9C] = .ok (.sbc_a_h, []) ∧ decode {} [0x35] = .ok (.dec_atHL, []) ∧
  decode {} [0x39] = .ok (.add_hl_sp, []) ∧ decode {} [0x1F] = .ok (.rra, []) ∧
  decode {} [0xCB, 0x1E] = .ok (.rr_atHL, []) ∧ decode {} [0xCB, 0x7C] = .ok (.bit_7_h, []) ∧
  decode {} [0x20, 0xFB] = .ok (.jr_nz_e8 0xFB, []) ∧ decode {} [0xD4, 0x00, 0x03] = .ok (.call_nc_a16 0x0300, []) ∧
  decode {} [0x10, 0xFF] = .ok (.stop 0xFF, []) ∧ decode {} [0xD3] = .ok (.illegal 0xD3, [])

/-! ## The step -/

/-- R110, R111, R114: with no bridge attached, a step at a state that is not halted is `exec` of the instruction the
decoder reads at PC, at that state with PC moved to `op_addr` (past the prefix of an extended instruction). -/
def Obligations.StepRunsDecodedInstruction : Prop :=
  ∀ (s : State) (i : Instr) (rest : List Byte), s.halted = false → s.bridge = none →
    decode s.config s.bytesAtPc = .ok (i, rest) → i.wellFormed s.config = true →
    step s = exec i s.atOpAddr ∧
      s.atOpAddr = { s with pc := match i.key with | .base _ => s.pc | .ext _ => s.pc + 1 }

/-- R110, R113: a step that finds a descriptor publishes `before_execute` at `op_addr`, runs the instruction with its
operand bytes as memory then holds them, and publishes `after_execute` with the same debug view. -/
def Obligations.StepRunsCallbacksAroundInstruction : Prop :=
  ∀ s t u : State, s.halted = false → s.config.has s.fetchKey = true →
    t = s.atOpAddr.fire (.beforeExecute (debugView s.config s.fetchKey)) → exec (t.instrAt s.fetchKey) t = .next u →
    step s = .next (u.fire (.afterExecute (debugView s.config s.fetchKey)))

/-- R86, R87, R98, R114: at `op_addr`, the instruction of a present descriptor has its operand bytes at `op_addr + 1`
and `op_addr + 2`, modulo 0x10000, and there are `encodedLength - 1` of them. -/
def Obligations.OperandBytesFollowOpcode : Prop :=
  ∀ (s : State) (k : OpKey), s.config.has k = true →
    (s.instrAt k).key = k ∧
    encode (s.instrAt k) =
      k.opcodeBytes ++ [s.readByte (s.pc + 1), s.readByte (s.pc + 2)].take (encodedLength k - 1)

/-- R112, R401: a step that finds no descriptor changes nothing but, after a prefix, PC, which stays moved past the
prefix; an attached bridge is notified with the byte that failed the lookup.  A base stall with no bridge
repeats.  That a stall answers a next state, and that `State.report` tells it apart, are the model's choices (log 8). -/
def Obligations.MissingDescriptorStalls : Prop :=
  ∀ s : State, s.halted = false → s.config.has s.fetchKey = false →
    s.report = .stalled s.fetchKey.byte ∧
    step s = .next (s.atOpAddr.fire (.unimplementedOpcode s.fetchKey.byte)) ∧
    (s.bridge = none → s.readByte s.pc ≠ 0xCB → step s = .next s) ∧
    (s.bridge = none → s.readByte s.pc = 0xCB → step s = .next { s with pc := s.pc + 1 })

/-- R117, R414, R460: a halted step changes nothing and is final; `HALT_WAKE` clears `halted` and nothing else, and the
next step then fetches at PC.  The rules say that nothing changes and nothing fires; that `State.report` says `halted`
for such a step is the model's choice (log 8). -/
def Obligations.HaltedStepChangesNothing : Prop :=
  ∀ s : State, s.halted = true →
    s.report = .halted ∧ step s = .next s ∧ haltWake s = { s with halted := false } ∧
      step (haltWake s) = stepRunning (haltWake s)

/-- R118, R400: no step faults, and none is refused.  That a stall is a next state is the model's choice (log 8). -/
def Obligations.EveryStepAnswersNext : Prop := ∀ s : State, ∃ t, step s = .next t

/-- R110, R405, R410: with a bridge attached whose script subscribes nothing, an executing step hands over
`before_execute` and then `after_execute` with the descriptor's debug view, a stalling step exactly one
`unimplemented_opcode`, and a halted step nothing.  The record of what is handed over is the model's own (log 10). -/
def Obligations.StepPublishesEventsInOrder : Prop :=
  ∀ (s : State) (br : Bridge), s.bridge = some br → br.subscriptions = [] →
    ∃ t, step s = .next t ∧ t.bridge = some { br with record := br.record ++
      match s.report with
      | .halted => []
      | .stalled key => [.event (.unimplementedOpcode key)]
      | .executed k =>
        [.event (.beforeExecute (debugView s.config k)), .event (.afterExecute (debugView s.config k))] }

/-! ## Invariants and whole-machine rules -/

/-- R25: every step keeps F[3:0] at 0; and it keeps memory in the canonical form, which is the model's choice (log 15). -/
def Obligations.StepKeepsInvariant : Prop :=
  ∀ s t : State, s.Inv → step s = .next t → t.Inv

/-- R452: the invariant holds at reset (memory's canonical form is the model's choice, log 15), with the reset values
the spec gives; the other registers' values are the model's choice (log 3) and are not stated. -/
def Obligations.ResetMeetsInvariant : Prop :=
  State.reset.Inv ∧ State.reset.readF &&& 0x0F = 0 ∧ State.reset.cycles = 0 ∧ State.reset.ime = false ∧
    State.reset.halted = false ∧ State.reset.runMode = .running

/-- R30, R31, R34: no step changes the launch parameters; only HALT and STOP change `halted`, and only DI, EI and RETI
change IME.  No step changes the subscriptions either, which is the model's choice (log 10: a script subscribes while it
is loaded, R450, and not later), nor a waiting signal, which the driving loop alone takes (R412), in the form the model
gives the two slots (log 12). -/
def Obligations.OnlyNamedInstructionsChangeControl : Prop :=
  ∀ s t : State, step s = .next t →
    t.config = s.config ∧ t.stepSignal = s.stepSignal ∧ t.continueSignal = s.continueSignal ∧
    t.bridge.map Bridge.subscriptions = s.bridge.map Bridge.subscriptions ∧
    (t.halted ≠ s.halted →
      t.halted = true ∧ (s.report = .executed (.base 0x76) ∨ s.report = .executed (.base 0x10))) ∧
    (t.ime ≠ s.ime →
      s.report = .executed (.base 0xF3) ∨ s.report = .executed (.base 0xFB) ∨ s.report = .executed (.base 0xD9))

/-- R29, R30: nothing reads IME or the cycle counter: a step from a state that differs in these alone gives a state that
differs in these alone. -/
def Obligations.ImeAndCyclesAreNotRead : Prop :=
  ∀ (s t : State) (b : Bool) (n : Nat), step s = .next t →
    ∃ (b' : Bool) (n' : Nat), step { s with ime := b, cycles := n } = .next { t with ime := b', cycles := n' }

/-- R32, R412: the run mode and the waiting signals never change what a step computes. -/
def Obligations.RunModeIsNotRead : Prop :=
  ∀ (s t : State) (m : RunMode) (x y : Bool), step s = .next t →
    ∃ m', step { s with runMode := m, stepSignal := x, continueSignal := y } =
      .next { t with runMode := m', stepSignal := x, continueSignal := y }

/-- R410: with no bridge attached the step is otherwise identical to one with a bridge whose callbacks do nothing (what
callbacks do is the model's input tape, log 10). -/
def Obligations.IdleBridgeChangesNothing : Prop :=
  ∀ (s t : State) (br : Bridge), s.bridge = some br → br.behaviours = [] → step s = .next t →
    step { s with bridge := none } = .next { t with bridge := none }

/-- R411, R413: whatever the callbacks of an event do, only memory, the run mode and the bridge itself can change; with
no bridge nothing does; an error ends its callback and is logged, and what the callback wrote before stays.  What
callbacks do, and the record, are the model's tape and log (log 10). -/
def Obligations.CallbacksTouchMemoryAndRunModeOnly : Prop :=
  (∀ (e : Event) (s : State), ∃ m r br, s.fire e = { s with mem := m, runMode := r, bridge := br } ∧
    (s.bridge = none → s.fire e = s)) ∧
  ∀ (s : State) (br : Bridge) (a : Word) (v : Byte) (rest : List ScriptAction) (more : List (List ScriptAction)),
    s.bridge = some br → br.behaviours = (.writeByte a v :: .raiseError :: rest) :: more →
      invokeCallback s = { s.writeByte a v with
        bridge := some { br with behaviours := more, record := br.record ++ [.errorLogged] } } ∧
      (invokeCallback s).readByte a = v

/-! ## Memory, pairs, startup and the host -/

/-- R52, R53, R54, R130: a word is stored with its low byte at the lower address, modulo 0x10000, is read back, and
leaves every other byte as it was; at 0xFFFF the high byte is at 0x0000; after a push the word is at SP. -/
def Obligations.WordsAreLittleEndianAndWrap : Prop :=
  ∀ (s : State) (a w : Word),
    s.readWord a = joinBytes (s.readByte (a + 1)) (s.readByte a) ∧ (s.writeWord a w).readWord a = w ∧
    (s.writeWord a w).readByte a = loByte w ∧
    (s.writeWord a w).readByte (a + 1) = hiByte w ∧ SameMem [a, a + 1] s (s.writeWord a w) ∧
    s.readWord 0xFFFF = joinBytes (s.readByte 0x0000) (s.readByte 0xFFFF) ∧
    (s.push16 w).readWord (s.push16 w).sp = w

/-- R21, R22: the round-trip laws of the pairs; for AF bits 3 to 0 are lost, and writing AF back changes nothing where
F[3:0] is 0. -/
def Obligations.PairRoundTrip : Prop :=
  ∀ (s : State) (p : Pair) (w : Word),
    (s.setPair p w).getPair p = (if p = .af then w &&& 0xFFF0 else w) ∧
    ((p = .af → s.f &&& 0x0F = 0) → s.setPair p (s.getPair p) = s)

/-- R61, R67, R68, R410, R450, R452: a startup that succeeds leaves `RESET_REGS` in the registers, PC at 0 with a boot
image and at `RESET_PC` without, the counters and bits at the values the spec gives, and memory holding the bytes the
debug script's load wrote (the last one at each address) over the boot image over `INIT_MEM`; a bridge is attached just
where a script is given, with the subscriptions the load registered.  A boot image of more than 256 bytes gives
ValidationError.  A byte past the end of `INIT_MEM` reads as the model's own choice (log 5); the form in which a launch
gives a script's load is the model's own too (log 10). -/
def Obligations.StartupLeavesLaunchInputs : Prop :=
  (∀ (p : Launch) (s : State), startup p = .ok s →
    s.a = p.resetRegs.a ∧ s.b = p.resetRegs.b ∧ s.c = p.resetRegs.c ∧ s.d = p.resetRegs.d ∧
    s.e = p.resetRegs.e ∧ s.h = p.resetRegs.h ∧ s.l = p.resetRegs.l ∧ s.sp = p.resetRegs.sp ∧
    FlagsAre s p.resetRegs.z p.resetRegs.n p.resetRegs.hf p.resetRegs.cf ∧
    s.pc = (if p.boot.isSome then 0 else p.resetPc) ∧ s.cycles = 0 ∧ s.ime = false ∧ s.halted = false ∧
    s.runMode = .running ∧ s.config = p.config ∧ s.Inv ∧
    s.bridge.map Bridge.subscriptions = Option.map DebugScript.loadSubscriptions p.debug ∧
    ∀ a : Word, s.readByte a =
      ((DebugScript.loadWrites p.debug).reverse.lookup a).getD
        (match p.boot with
        | some (.bytes image) =>
          if a.toNat < image.length then image.getD a.toNat 0 else p.initMem.getD a.toNat unlistedByte
        | _ => p.initMem.getD a.toNat unlistedByte)) ∧
  ∀ (p : Launch) (rom image : List Byte), p.rom = some (.bytes rom) → p.boot = some (.bytes image) →
    256 < image.length → startup p = .error .validationError

/-- R412, R457: running, the loop steps; waiting, it polls without a signal, a Step signal gives exactly one step, a
Continue signal clears the awaiting state; of two signals one is served first (which one is left open, log 12). -/
def Obligations.LoopServesSignals : Prop :=
  ∀ (first : Bool) (s : State),
    (s.runMode = .running → loopTurn first s = step s) ∧
    (s.runMode = .awaitingDebugStep → s.stepSignal = false → s.continueSignal = false → loopTurn first s = .next s) ∧
    (s.runMode = .awaitingDebugStep → s.stepSignal = true → s.continueSignal = false →
      loopTurn first s = step { s with stepSignal := false }) ∧
    (s.runMode = .awaitingDebugStep → s.stepSignal = false → s.continueSignal = true →
      loopTurn first s = .next { s with continueSignal := false, runMode := .running }) ∧
    (s.runMode = .awaitingDebugStep → s.stepSignal = true → s.continueSignal = true →
      loopTurn first s = step { s with stepSignal := false } ∨
      loopTurn first s = .next { s with continueSignal := false, runMode := .running })

/-- R415: `cpuState()` shows SP, PC, the eight registers, the four pairs and the 4-character flag string. -/
def Obligations.CpuStateShowsRegisters : Prop :=
  ∀ s : State, s.cpuState.stackPointer = s.sp ∧ s.cpuState.programCounter = s.pc ∧ s.cpuState.a = s.a ∧
    s.cpuState.b = s.b ∧ s.cpuState.c = s.c ∧ s.cpuState.d = s.d ∧ s.cpuState.e = s.e ∧ s.cpuState.f = s.readF ∧
    s.cpuState.h = s.h ∧ s.cpuState.l = s.l ∧ s.cpuState.af = joinBytes s.a s.readF ∧
    s.cpuState.bc = joinBytes s.b s.c ∧ s.cpuState.de = joinBytes s.d s.e ∧ s.cpuState.hl = joinBytes s.h s.l ∧
    s.cpuState.flags.toList =
      [if s.flagZ then 'Z' else s.config.flagPlaceholder, if s.flagN then 'N' else s.config.flagPlaceholder,
       if s.flagH then 'H' else s.config.flagPlaceholder, if s.flagC then 'C' else s.config.flagPlaceholder]

/-! ## 8-bit loads -/

/-- R150. -/
def Obligations.LoadRegisterFromRegister : Prop :=
  ∀ (dst r : Reg8) (s : State),
    encode (instrLdRegReg dst r) = [0x40 ||| dst.code <<< 3 ||| r.code] ∧
    ∃ t, exec (instrLdRegReg dst r) s = .next t ∧ t.getR dst = s.getR r ∧ t.f = s.f ∧ t.sp = s.sp ∧
      Keeps [dst] [] s t ∧ Completed (instrLdRegReg dst r) 1 s t

/-- R151. -/
def Obligations.LoadRegisterImmediate : Prop :=
  ∀ (r : Reg8) (n : Byte) (s : State),
    encode (instrLdRegImm r n) = [0x06 ||| r.code <<< 3, n] ∧
    ∃ t, exec (instrLdRegImm r n) s = .next t ∧ t.getR r = n ∧ t.f = s.f ∧ t.sp = s.sp ∧
      Keeps [r] [] s t ∧ Completed (instrLdRegImm r n) 2 s t

/-- R152: the address is HL before the register is written. -/
def Obligations.LoadRegisterFromHL : Prop :=
  ∀ (r : Reg8) (s : State),
    encode (instrLdRegAtHL r) = [0x46 ||| r.code <<< 3] ∧
    ∃ t, exec (instrLdRegAtHL r) s = .next t ∧ t.getR r = s.readByte s.hl ∧ t.f = s.f ∧ t.sp = s.sp ∧
      Keeps [r] [] s t ∧ Completed (instrLdRegAtHL r) 1 s t

/-- R153, R154. -/
def Obligations.StoreAtHL : Prop :=
  ∀ (r : Reg8) (n : Byte) (s : State),
    encode (instrLdAtHLReg r) = [0x70 ||| r.code] ∧ StoresByte (instrLdAtHLReg r) s.hl (s.getR r) 1 s ∧
    encode (.ld_atHL_d8 n) = [0x36, n] ∧ StoresByte (.ld_atHL_d8 n) s.hl n 2 s

/-- R155, R156, R159, R162, R164. -/
def Obligations.LoadAFromAddress : Prop :=
  ∀ (n : Byte) (a : Word) (s : State),
    (encode .ld_a_atBC = [0x0A] ∧ LoadsA .ld_a_atBC (joinBytes s.b s.c) 1 s) ∧
    (encode .ld_a_atDE = [0x1A] ∧ LoadsA .ld_a_atDE (joinBytes s.d s.e) 1 s) ∧
    (encode (.ld_a_atA16 a) = [0xFA, loByte a, hiByte a] ∧ LoadsA (.ld_a_atA16 a) a 3 s) ∧
    (encode (.ldh_a_atA8 n) = [0xF0, n] ∧ LoadsA (.ldh_a_atA8 n) (joinBytes 0xFF n) 2 s) ∧
    (encode .ld_a_atC = [0xF2] ∧ LoadsA .ld_a_atC (joinBytes 0xFF s.c) 1 s)

/-- R157, R158, R160, R161, R163. -/
def Obligations.StoreAAtAddress : Prop :=
  ∀ (n : Byte) (a : Word) (s : State),
    (encode .ld_atBC_a = [0x02] ∧ StoresByte .ld_atBC_a (joinBytes s.b s.c) s.a 1 s) ∧
    (encode .ld_atDE_a = [0x12] ∧ StoresByte .ld_atDE_a (joinBytes s.d s.e) s.a 1 s) ∧
    (encode (.ld_atA16_a a) = [0xEA, loByte a, hiByte a] ∧ StoresByte (.ld_atA16_a a) a s.a 3 s) ∧
    (encode (.ldh_atA8_a n) = [0xE0, n] ∧ StoresByte (.ldh_atA8_a n) (joinBytes 0xFF n) s.a 2 s) ∧
    (encode .ld_atC_a = [0xE2] ∧ StoresByte .ld_atC_a (joinBytes 0xFF s.c) s.a 1 s)

/-- R165 to R168: the access uses HL before the change, and HL wraps modulo 0x10000. -/
def Obligations.IndirectLoadsChangeHLAfter : Prop :=
  ∀ s : State,
    (encode .ld_atHLinc_a = [0x22] ∧ ∃ t, exec .ld_atHLinc_a s = .next t ∧ t.readByte s.hl = s.a ∧ t.hl = s.hl + 1 ∧
      t.f = s.f ∧ t.sp = s.sp ∧ Keeps [.h, .l] [s.hl] s t ∧ Completed .ld_atHLinc_a 1 s t) ∧
    (encode .ld_atHLdec_a = [0x32] ∧ ∃ t, exec .ld_atHLdec_a s = .next t ∧ t.readByte s.hl = s.a ∧ t.hl = s.hl - 1 ∧
      t.f = s.f ∧ t.sp = s.sp ∧ Keeps [.h, .l] [s.hl] s t ∧ Completed .ld_atHLdec_a 1 s t) ∧
    (encode .ld_a_atHLinc = [0x2A] ∧ ∃ t, exec .ld_a_atHLinc s = .next t ∧ t.a = s.readByte s.hl ∧ t.hl = s.hl + 1 ∧
      t.f = s.f ∧ t.sp = s.sp ∧ Keeps [.a, .h, .l] [] s t ∧ Completed .ld_a_atHLinc 1 s t) ∧
    (encode .ld_a_atHLdec = [0x3A] ∧ ∃ t, exec .ld_a_atHLdec s = .next t ∧ t.a = s.readByte s.hl ∧ t.hl = s.hl - 1 ∧
      t.f = s.f ∧ t.sp = s.sp ∧ Keeps [.a, .h, .l] [] s t ∧ Completed .ld_a_atHLdec 1 s t)

/-! ## 16-bit loads and the stack -/

/-- R180. -/
def Obligations.LoadPairImmediate : Prop :=
  ∀ (rr : Reg16) (w : Word) (s : State),
    encode (instrLdPairImm rr w) = [0x01 ||| rr.code <<< 4, loByte w, hiByte w] ∧
    ∃ t, exec (instrLdPairImm rr w) s = .next t ∧ t.getReg16 rr = w ∧ t.f = s.f ∧ KeepsPairs [rr] s t ∧
      Completed (instrLdPairImm rr w) 3 s t

/-- R181: the low byte at a16, the high byte at a16 + 1 modulo 0x10000. -/
def Obligations.StoreStackPointer : Prop :=
  ∀ (a : Word) (s : State),
    encode (.ld_atA16_sp a) = [0x08, loByte a, hiByte a] ∧
    ∃ t, exec (.ld_atA16_sp a) s = .next t ∧ t.readByte a = loByte s.sp ∧ t.readByte (a + 1) = hiByte s.sp ∧
      t.f = s.f ∧ t.sp = s.sp ∧ Keeps [] [a, a + 1] s t ∧ Completed (.ld_atA16_sp a) 3 s t

/-- R182, R183: Z is cleared whatever the sum, and the flags are those of the unsigned add of the low byte. -/
def Obligations.LoadBetweenStackPointerAndHL : Prop :=
  ∀ (e : Byte) (s : State),
    (encode .ld_sp_hl = [0xF9] ∧ ∃ t, exec .ld_sp_hl s = .next t ∧ t.sp = s.hl ∧ t.f = s.f ∧ Keeps [] [] s t ∧
      Completed .ld_sp_hl 1 s t) ∧
    (encode (.ld_hl_spE8 e) = [0xF8, e] ∧ ∃ t, exec (.ld_hl_spE8 e) s = .next t ∧
      (t.hl.toNat : Int) = ((s.sp.toNat : Int) + e.toInt) % 65536 ∧
      t.sp = s.sp ∧
      FlagsAre t false false (decide (15 < s.sp.toNat % 16 + e.toNat % 16))
        (decide (255 < s.sp.toNat % 256 + e.toNat)) ∧
      Keeps [.h, .l] [] s t ∧ Completed (.ld_hl_spE8 e) 2 s t)

/-- R184: the high byte goes to SP - 1, the low byte to SP - 2, modulo 0x10000; PUSH AF stores F with its low nibble
0. -/
def Obligations.PushPair : Prop :=
  ∀ (p : Pair) (s : State),
    encode (instrPush p) = [0xC5 ||| p.code <<< 4] ∧
    ∃ t, exec (instrPush p) s = .next t ∧ t.sp = s.sp - 2 ∧ t.readByte (s.sp - 1) = hiByte (s.getPair p) ∧
      t.readByte (s.sp - 2) = loByte (s.getPair p) ∧ t.readWord t.sp = s.getPair p ∧
      (p = .af → t.readByte (s.sp - 2) = s.f &&& 0xF0) ∧ t.f = s.f ∧
      Keeps [] [s.sp - 1, s.sp - 2] s t ∧ Completed (instrPush p) 1 s t

/-- R185, R186: the word at SP goes to the pair; POP AF drops bits 3 to 0 of the low byte. -/
def Obligations.PopPair : Prop :=
  ∀ (p : Pair) (s : State),
    encode (instrPop p) = [0xC1 ||| p.code <<< 4] ∧
    ∃ t, exec (instrPop p) s = .next t ∧ t.sp = s.sp + 2 ∧
      t.getPair p = (if p = .af then s.readWord s.sp &&& 0xFFF0 else s.readWord s.sp) ∧
      (p = .af → t.a = s.readByte (s.sp + 1) ∧ t.readF = s.readByte s.sp &&& 0xF0) ∧
      (p ≠ .af → t.a = s.a ∧ t.f = s.f) ∧ (∀ q : Pair, q ≠ p → q ≠ .af → t.getPair q = s.getPair q) ∧
      SameMem [] s t ∧ SameControl s t ∧ Completed (instrPop p) 1 s t

/-! ## 8-bit arithmetic and logic -/

/-- R124, R200 to R205: ADD with no carry in, ADC with the carry flag. -/
def Obligations.AddAndAddWithCarry : Prop :=
  ∀ (src : Source) (s : State), ∀ op ∈ [AluOp.add, AluOp.adc], ∀ cin : Nat,
    cin = (if op = .adc then s.flagC.toNat else 0) →
    encode (instrAlu op src) = aluBytes op src ∧
    ∃ t, exec (instrAlu op src) s = .next t ∧ t.a.toNat = (s.a.toNat + (s.source src).toNat + cin) % 256 ∧
      FlagsAre t (t.a == 0) false (decide (15 < s.a.toNat % 16 + (s.source src).toNat % 16 + cin))
        (decide (255 < s.a.toNat + (s.source src).toNat + cin)) ∧
      t.sp = s.sp ∧ Keeps [.a] [] s t ∧ Completed (instrAlu op src) (sourceLength src) s t

/-- R125, R206 to R211: SUB with no borrow in, SBC with the carry flag. -/
def Obligations.SubtractAndSubtractWithCarry : Prop :=
  ∀ (src : Source) (s : State), ∀ op ∈ [AluOp.sub, AluOp.sbc], ∀ cin : Nat,
    cin = (if op = .sbc then s.flagC.toNat else 0) →
    encode (instrAlu op src) = aluBytes op src ∧
    ∃ t, exec (instrAlu op src) s = .next t ∧
      (t.a.toNat : Int) = ((s.a.toNat : Int) - ((s.source src).toNat : Int) - (cin : Int)) % 256 ∧
      FlagsAre t (t.a == 0) true (decide (s.a.toNat % 16 < (s.source src).toNat % 16 + cin))
        (decide (s.a.toNat < (s.source src).toNat + cin)) ∧
      t.sp = s.sp ∧ Keeps [.a] [] s t ∧ Completed (instrAlu op src) (sourceLength src) s t

/-- R126 to R128, R212 to R220: AND sets H, XOR and OR clear it; all three clear N and the carry. -/
def Obligations.AndXorOr : Prop :=
  ∀ (src : Source) (s : State), ∀ op ∈ [AluOp.and, AluOp.xor, AluOp.or],
    encode (instrAlu op src) = aluBytes op src ∧
    ∃ t, exec (instrAlu op src) s = .next t ∧
      (op = .and → t.a = s.a &&& s.source src) ∧ (op = .xor → t.a = s.a ^^^ s.source src) ∧
      (op = .or → t.a = s.a ||| s.source src) ∧
      FlagsAre t (t.a == 0) false (op == .and) false ∧
      t.sp = s.sp ∧ Keeps [.a] [] s t ∧ Completed (instrAlu op src) (sourceLength src) s t

/-- R125, R221 to R223: the flags of the subtraction, and A is not written. -/
def Obligations.Compare : Prop :=
  ∀ (src : Source) (s : State),
    encode (instrAlu .cp src) = aluBytes .cp src ∧
    ∃ t, exec (instrAlu .cp src) s = .next t ∧
      FlagsAre t (s.a == s.source src) true (decide (s.a.toNat % 16 < (s.source src).toNat % 16))
        (decide (s.a.toNat < (s.source src).toNat)) ∧
      t.sp = s.sp ∧ Keeps [] [] s t ∧ Completed (instrAlu .cp src) (sourceLength src) s t

/-- R129, R224, R225: the carry is never changed. -/
def Obligations.Increment : Prop :=
  ∀ (r : Reg8) (s : State),
    (encode (instrIncReg r) = [0x04 ||| r.code <<< 3] ∧
      ∃ t, exec (instrIncReg r) s = .next t ∧ (t.getR r).toNat = ((s.getR r).toNat + 1) % 256 ∧
      FlagsAre t (t.getR r == 0) false (decide ((s.getR r).toNat % 16 = 15)) s.flagC ∧
      t.sp = s.sp ∧ Keeps [r] [] s t ∧ Completed (instrIncReg r) 1 s t) ∧
    (encode .inc_atHL = [0x34] ∧
      ∃ t, exec .inc_atHL s = .next t ∧ (t.readByte s.hl).toNat = ((s.readByte s.hl).toNat + 1) % 256 ∧
      FlagsAre t (t.readByte s.hl == 0) false (decide ((s.readByte s.hl).toNat % 16 = 15)) s.flagC ∧
      t.sp = s.sp ∧ Keeps [] [s.hl] s t ∧ Completed .inc_atHL 1 s t)

/-- R132, R226, R227: the carry is never changed. -/
def Obligations.Decrement : Prop :=
  ∀ (r : Reg8) (s : State),
    (encode (instrDecReg r) = [0x05 ||| r.code <<< 3] ∧
      ∃ t, exec (instrDecReg r) s = .next t ∧ (t.getR r).toNat = ((s.getR r).toNat + 255) % 256 ∧
      FlagsAre t (t.getR r == 0) true (decide ((s.getR r).toNat % 16 = 0)) s.flagC ∧
      t.sp = s.sp ∧ Keeps [r] [] s t ∧ Completed (instrDecReg r) 1 s t) ∧
    (encode .dec_atHL = [0x35] ∧
      ∃ t, exec .dec_atHL s = .next t ∧ (t.readByte s.hl).toNat = ((s.readByte s.hl).toNat + 255) % 256 ∧
      FlagsAre t (t.readByte s.hl == 0) true (decide ((s.readByte s.hl).toNat % 16 = 0)) s.flagC ∧
      t.sp = s.sp ∧ Keeps [] [s.hl] s t ∧ Completed .dec_atHL 1 s t)

/-- R141, R228: after an addition, 0x60 is added where C is set or A is above 0x99, and 0x06 where H is set or the low
digit is above 9, and the carry is set but never cleared; after a subtraction, 0x60 is taken away where
C is set and 0x06 where H is set, and the carry is kept. -/
def Obligations.DecimalAdjust : Prop :=
  ∀ s : State,
    encode .daa = [0x27] ∧
    ∃ t, exec .daa s = .next t ∧
      (s.flagN = false →
        t.a.toNat = (s.a.toNat + (if s.flagC = true ∨ 0x99 < s.a.toNat then 0x60 else 0) +
          (if s.flagH = true ∨ 9 < s.a.toNat % 16 then 0x06 else 0)) % 256 ∧
        FlagsAre t (t.a == 0) false false (s.flagC || decide (0x99 < s.a.toNat))) ∧
      (s.flagN = true →
        (t.a.toNat : Int) = ((s.a.toNat : Int) - (if s.flagC then 0x60 else 0) - (if s.flagH then 0x06 else 0)) % 256 ∧
        FlagsAre t (t.a == 0) true false s.flagC) ∧
      t.sp = s.sp ∧ Keeps [.a] [] s t ∧ Completed .daa 1 s t

/-- R229, R230, R231: Z is kept by all three, and CCF clears H. -/
def Obligations.ComplementAndCarryFlags : Prop :=
  ∀ s : State,
    (encode .cpl = [0x2F] ∧ ∃ t, exec .cpl s = .next t ∧ t.a.toNat = 255 - s.a.toNat ∧
      FlagsAre t s.flagZ true true s.flagC ∧ t.sp = s.sp ∧ Keeps [.a] [] s t ∧ Completed .cpl 1 s t) ∧
    (encode .scf = [0x37] ∧ ∃ t, exec .scf s = .next t ∧ FlagsAre t s.flagZ false false true ∧ t.sp = s.sp ∧
      Keeps [] [] s t ∧ Completed .scf 1 s t) ∧
    (encode .ccf = [0x3F] ∧ ∃ t, exec .ccf s = .next t ∧ FlagsAre t s.flagZ false false (!s.flagC) ∧ t.sp = s.sp ∧
      Keeps [] [] s t ∧ Completed .ccf 1 s t)

/-! ## 16-bit arithmetic -/

/-- R139, R240: Z is kept, H is the carry out of bit 11, C the carry out of bit 15. -/
def Obligations.AddPairToHL : Prop :=
  ∀ (rr : Reg16) (s : State),
    encode (instrAddHL rr) = [0x09 ||| rr.code <<< 4] ∧
    ∃ t, exec (instrAddHL rr) s = .next t ∧ t.hl.toNat = (s.hl.toNat + (s.getReg16 rr).toNat) % 65536 ∧
      FlagsAre t s.flagZ false (decide (4095 < s.hl.toNat % 4096 + (s.getReg16 rr).toNat % 4096))
        (decide (65535 < s.hl.toNat + (s.getReg16 rr).toNat)) ∧
      KeepsPairs [.hl] s t ∧ Completed (instrAddHL rr) 1 s t

/-- R241, R242: modulo 0x10000, with no flag change. -/
def Obligations.IncrementAndDecrementPair : Prop :=
  ∀ (rr : Reg16) (s : State),
    (encode (instrIncPair rr) = [0x03 ||| rr.code <<< 4] ∧
      ∃ t, exec (instrIncPair rr) s = .next t ∧ (t.getReg16 rr).toNat = ((s.getReg16 rr).toNat + 1) % 65536 ∧
      t.f = s.f ∧ KeepsPairs [rr] s t ∧ Completed (instrIncPair rr) 1 s t) ∧
    (encode (instrDecPair rr) = [0x0B ||| rr.code <<< 4] ∧
      ∃ t, exec (instrDecPair rr) s = .next t ∧ (t.getReg16 rr).toNat = ((s.getReg16 rr).toNat + 65535) % 65536 ∧
      t.f = s.f ∧ KeepsPairs [rr] s t ∧ Completed (instrDecPair rr) 1 s t)

/-- R140, R243: Z is cleared whatever the sum, and the flags are those of the unsigned add of the low byte. -/
def Obligations.AddDisplacementToStackPointer : Prop :=
  ∀ (e : Byte) (s : State),
    encode (.add_sp_e8 e) = [0xE8, e] ∧
    ∃ t, exec (.add_sp_e8 e) s = .next t ∧
      (t.sp.toNat : Int) = ((s.sp.toNat : Int) + e.toInt) % 65536 ∧
      FlagsAre t false false (decide (15 < s.sp.toNat % 16 + e.toNat % 16))
        (decide (255 < s.sp.toNat % 256 + e.toNat)) ∧
      Keeps [] [] s t ∧ Completed (.add_sp_e8 e) 2 s t

/-! ## Rotates, shifts and bits -/

/-- R250 to R253: Z is always cleared. -/
def Obligations.RotateAccumulator : Prop :=
  ∀ s : State, ∀ x ∈ [(Instr.rlca, (0x07 : Byte), ShiftOp.rlc), (.rrca, 0x0F, .rrc), (.rla, 0x17, .rl), (.rra, 0x1F, .rr)],
    encode x.1 = [x.2.1] ∧
    ∃ t, exec x.1 s = .next t ∧ t.a.toNat = (shiftOnNat x.2.2 s.a.toNat s.flagC.toNat).1 ∧
      FlagsAre t false false false (shiftOnNat x.2.2 s.a.toNat s.flagC.toNat).2 ∧
      t.sp = s.sp ∧ Keeps [.a] [] s t ∧ Completed x.1 1 s t

/-- R137, R138 and the register forms R254, R256, R258, R260, R262, R264, R266, R268: Z from the result. -/
def Obligations.ShiftRegister : Prop :=
  ∀ (op : ShiftOp) (r : Reg8) (s : State),
    encode (instrShiftReg op r) = [(0xCB : Byte), op.code <<< 3 ||| r.code] ∧
    ∃ t, exec (instrShiftReg op r) s = .next t ∧
      (t.getR r).toNat = (shiftOnNat op (s.getR r).toNat s.flagC.toNat).1 ∧
      FlagsAre t (t.getR r == 0) false false (shiftOnNat op (s.getR r).toNat s.flagC.toNat).2 ∧
      t.sp = s.sp ∧ Keeps [r] [] s t ∧ Completed (instrShiftReg op r) 1 s t

/-- R137, R138 and the (HL) forms R255, R257, R259, R261, R263, R265, R267, R269. -/
def Obligations.ShiftAtHL : Prop :=
  ∀ (op : ShiftOp) (s : State),
    encode (instrShiftAtHL op) = [(0xCB : Byte), 0x06 ||| op.code <<< 3] ∧
    ∃ t, exec (instrShiftAtHL op) s = .next t ∧
      (t.readByte s.hl).toNat = (shiftOnNat op (s.readByte s.hl).toNat s.flagC.toNat).1 ∧
      FlagsAre t (t.readByte s.hl == 0) false false (shiftOnNat op (s.readByte s.hl).toNat s.flagC.toNat).2 ∧
      t.sp = s.sp ∧ Keeps [] [s.hl] s t ∧ Completed (instrShiftAtHL op) 1 s t

/-- R136, R270, R271: Z is set iff the bit is 0; neither the register nor memory is written. -/
def Obligations.TestBit : Prop :=
  ∀ (n : Fin 8) (r : Reg8) (s : State),
    (encode (instrBitReg n r) = [(0xCB : Byte), 0x40 ||| BitVec.ofNat 8 n <<< 3 ||| r.code] ∧
      ∃ t, exec (instrBitReg n r) s = .next t ∧
      FlagsAre t (decide ((s.getR r).toNat / 2 ^ n.val % 2 = 0)) false true s.flagC ∧
      t.sp = s.sp ∧ Keeps [] [] s t ∧ Completed (instrBitReg n r) 1 s t) ∧
    (encode (instrBitAtHL n) = [(0xCB : Byte), 0x46 ||| BitVec.ofNat 8 n <<< 3] ∧
      ∃ t, exec (instrBitAtHL n) s = .next t ∧
      FlagsAre t (decide ((s.readByte s.hl).toNat / 2 ^ n.val % 2 = 0)) false true s.flagC ∧
      t.sp = s.sp ∧ Keeps [] [] s t ∧ Completed (instrBitAtHL n) 1 s t)

/-- R272, R274: one bit of the register is cleared or set, and no flag changes. -/
def Obligations.ResetAndSetBitOfRegister : Prop :=
  ∀ (n : Fin 8) (r : Reg8) (s : State),
    (encode (instrResReg n r) = [(0xCB : Byte), 0x80 ||| BitVec.ofNat 8 n <<< 3 ||| r.code] ∧
      ∃ t, exec (instrResReg n r) s = .next t ∧
      (∀ k : Fin 8, (t.getR r).getLsbD k = (if k = n then false else (s.getR r).getLsbD k)) ∧
      t.f = s.f ∧ t.sp = s.sp ∧ Keeps [r] [] s t ∧ Completed (instrResReg n r) 1 s t) ∧
    (encode (instrSetReg n r) = [(0xCB : Byte), 0xC0 ||| BitVec.ofNat 8 n <<< 3 ||| r.code] ∧
      ∃ t, exec (instrSetReg n r) s = .next t ∧
      (∀ k : Fin 8, (t.getR r).getLsbD k = (if k = n then true else (s.getR r).getLsbD k)) ∧
      t.f = s.f ∧ t.sp = s.sp ∧ Keeps [r] [] s t ∧ Completed (instrSetReg n r) 1 s t)

/-- R273, R275: one bit of the byte at HL is cleared or set, and no flag changes. -/
def Obligations.ResetAndSetBitAtHL : Prop :=
  ∀ (n : Fin 8) (s : State),
    (encode (instrResAtHL n) = [(0xCB : Byte), 0x86 ||| BitVec.ofNat 8 n <<< 3] ∧
      ∃ t, exec (instrResAtHL n) s = .next t ∧
      (∀ k : Fin 8, (t.readByte s.hl).getLsbD k = (if k = n then false else (s.readByte s.hl).getLsbD k)) ∧
      t.f = s.f ∧ t.sp = s.sp ∧ Keeps [] [s.hl] s t ∧ Completed (instrResAtHL n) 1 s t) ∧
    (encode (instrSetAtHL n) = [(0xCB : Byte), 0xC6 ||| BitVec.ofNat 8 n <<< 3] ∧
      ∃ t, exec (instrSetAtHL n) s = .next t ∧
      (∀ k : Fin 8, (t.readByte s.hl).getLsbD k = (if k = n then true else (s.readByte s.hl).getLsbD k)) ∧
      t.f = s.f ∧ t.sp = s.sp ∧ Keeps [] [s.hl] s t ∧ Completed (instrSetAtHL n) 1 s t)

/-! ## Control transfer -/

/-- R290, R291, R292: a conditional jump not taken goes to `op_addr + 3`; JP HL reads no memory. -/
def Obligations.AbsoluteJumps : Prop :=
  ∀ (cc : Cond) (a : Word) (s : State),
    (encode (.jp_a16 a) = [0xC3, loByte a, hiByte a] ∧ Jumps (.jp_a16 a) a s) ∧
    (encode .jp_hl = [0xE9] ∧ Jumps .jp_hl s.hl s) ∧
    (encode (instrJpCond cc a) = [0xC2 ||| cc.code <<< 3, loByte a, hiByte a] ∧
      Jumps (instrJpCond cc a) (if s.cond cc then a else s.pc + 3) s)

/-- R135, R293, R294: the displacement is relative to the next instruction, modulo 0x10000; not taken goes to
`op_addr + 2`. -/
def Obligations.RelativeJumps : Prop :=
  ∀ (cc : Cond) (e : Byte) (s : State),
    (encode (.jr_e8 e) = [0x18, e] ∧
      ∃ a : Word, (a.toNat : Int) = ((s.pc.toNat : Int) + 2 + e.toInt) % 65536 ∧ Jumps (.jr_e8 e) a s ∧
        (s.cond cc = true → Jumps (instrJrCond cc e) a s)) ∧
    encode (instrJrCond cc e) = [0x20 ||| cc.code <<< 3, e] ∧
    (s.cond cc = false → Jumps (instrJrCond cc e) (s.pc + 2) s)

/-- R133, R295, R296: `op_addr + 3` is pushed; a conditional call not taken pushes nothing and goes to
`op_addr + 3`. -/
def Obligations.Calls : Prop :=
  ∀ (cc : Cond) (a : Word) (s : State),
    (encode (.call_a16 a) = [0xCD, loByte a, hiByte a] ∧ PushesAndJumps (.call_a16 a) (s.pc + 3) a s) ∧
    encode (instrCallCond cc a) = [0xC4 ||| cc.code <<< 3, loByte a, hiByte a] ∧
    (s.cond cc = true → PushesAndJumps (instrCallCond cc a) (s.pc + 3) a s) ∧
    (s.cond cc = false → Jumps (instrCallCond cc a) (s.pc + 3) s)

/-- R134, R297, R299: PC is popped; RETI also sets IME. -/
def Obligations.UnconditionalReturns : Prop :=
  ∀ s : State,
    (encode .ret = [0xC9] ∧ Returns .ret s) ∧
    (encode .reti = [0xD9] ∧ ∃ t, exec .reti s = .next t ∧ t.sp = s.sp + 2 ∧ t.f = s.f ∧ t.ime = true ∧
      Keeps [] [] { s with ime := true } t ∧ WentTo .reti (s.readWord s.sp) s t)

/-- R122, R134, R298: a conditional return not taken leaves SP and goes to `op_addr + 1`. -/
def Obligations.ConditionalReturns : Prop :=
  ∀ (cc : Cond) (s : State),
    encode (instrRetCond cc) = [0xC0 ||| cc.code <<< 3] ∧
    (s.cond cc = true → Returns (instrRetCond cc) s) ∧
    (s.cond cc = false → Jumps (instrRetCond cc) (s.pc + 1) s) ∧
    s.cond cc = (match cc with
      | .nz => !s.readF.getLsbD 7 | .z => s.readF.getLsbD 7 | .nc => !s.readF.getLsbD 4 | .c => s.readF.getLsbD 4)

/-- R90, R300: `op_addr + 1` is pushed, and the target is 8 times the field. -/
def Obligations.Restart : Prop :=
  ∀ (y : Fin 8) (s : State),
    encode (instrRst y) = [0xC7 ||| BitVec.ofNat 8 y <<< 3] ∧
    PushesAndJumps (instrRst y) (s.pc + 1) (BitVec.ofNat 16 (8 * y)) s

/-! ## Miscellaneous, and the missing descriptor -/

/-- R310, R313, R314: NOP changes nothing but PC and the counter, DI clears IME, EI sets it at once. -/
def Obligations.NopDiEi : Prop :=
  ∀ s : State,
    (encode .nop = [0x00] ∧ ∃ t, exec .nop s = .next t ∧ t.f = s.f ∧ t.sp = s.sp ∧ Keeps [] [] s t ∧
      Completed .nop 1 s t) ∧
    (encode .di = [0xF3] ∧ ∃ t, exec .di s = .next t ∧ t.ime = false ∧ t.f = s.f ∧ t.sp = s.sp ∧
      Keeps [] [] { s with ime := false } t ∧ Completed .di 1 s t) ∧
    (encode .ei = [0xFB] ∧ ∃ t, exec .ei s = .next t ∧ t.ime = true ∧ t.f = s.f ∧ t.sp = s.sp ∧
      Keeps [] [] { s with ime := true } t ∧ Completed .ei 1 s t)

/-- R311, R312: HALT and STOP set `halted`, PC goes past them (STOP's ignored byte too), and the step after changes
nothing. -/
def Obligations.HaltAndStop : Prop :=
  ∀ (x : Byte) (s : State),
    (encode .halt = [0x76] ∧ ∃ t, exec .halt s = .next t ∧ t.halted = true ∧ t.f = s.f ∧ t.sp = s.sp ∧
      Keeps [] [] { s with halted := true } t ∧ Completed .halt 1 s t ∧ step t = .next t) ∧
    (encode (.stop x) = [0x10, x] ∧ ∃ t, exec (.stop x) s = .next t ∧ t.halted = true ∧ t.f = s.f ∧ t.sp = s.sp ∧
      Keeps [] [] { s with halted := true } t ∧ Completed (.stop x) 2 s t ∧ step t = .next t)

/-- R95, R96, R111, R112: the two outcomes of a lookup without a descriptor complete with no change of register, flag,
PC or counter; with no bridge nothing changes at all; an attached bridge whose script subscribes nothing is
notified once with the byte.  That the two outcomes are constructors of `Instr` (log 9), that a stall answers a next
state (log 8), and the record that holds the notification (log 10) are the model's choices. -/
def Obligations.MissingDescriptorCompletes : Prop :=
  ∀ (key : Byte) (s : State), ∀ i ∈ [Instr.illegal key, .prefixCb key],
    ∃ t, exec i s = .next t ∧ SameRegs [] s t ∧ t.f = s.f ∧ t.sp = s.sp ∧ t.pc = s.pc ∧ t.cycles = s.cycles ∧
      t.ime = s.ime ∧ t.halted = s.halted ∧ t.config = s.config ∧ (s.bridge = none → t = s) ∧
      (∀ br, s.bridge = some br → br.subscriptions = [] →
        t = { s with bridge := some { br with record := br.record ++ [.event (.unimplementedOpcode key)] } })
end

