-- ==== Sys2Proof/Laws/Actions.lean ====
section
/-!
SUPPORT. What `exec` can do, said once for all instructions: every instruction but the two that stand for a missing
descriptor runs one of the actions below and then `retire`.  The five actions that change IME or `halted` stand at
their own keys.
-/

namespace Sys2Proof.Machine

/-- The actions of the instructions, with the key of the descriptor. -/
inductive IsAction : OpKey → (State → State) → Prop
  | loadReg (dst r : Reg8) (k : OpKey) : IsAction k (loadReg dst r)
  | loadImm (r : Reg8) (n : Byte) (k : OpKey) : IsAction k (loadImm r n)
  | loadFromHL (r : Reg8) (k : OpKey) : IsAction k (loadFromHL r)
  | storeReg (r : Reg8) (k : OpKey) : IsAction k (storeReg r)
  | storeImm (n : Byte) (k : OpKey) : IsAction k (storeImm n)
  | loadA (a : Word) (k : OpKey) : IsAction k (loadA a)
  | storeA (a : Word) (k : OpKey) : IsAction k (storeA a)
  | indLoad (p : Pair) (delta : Word) (k : OpKey) : IsAction k (indLoad p delta)
  | indStore (p : Pair) (delta : Word) (k : OpKey) : IsAction k (indStore p delta)
  | loadPair (rr : Reg16) (w : Word) (k : OpKey) : IsAction k (loadPair rr w)
  | storeSP (a : Word) (k : OpKey) : IsAction k (storeSP a)
  | loadSPFromHL (k : OpKey) : IsAction k loadSPFromHL
  | loadHLFromSP (e : Byte) (k : OpKey) : IsAction k (loadHLFromSP e)
  | push (p : Pair) (k : OpKey) : IsAction k (push p)
  | pop (p : Pair) (k : OpKey) : IsAction k (pop p)
  | alu (op : AluOp) (src : Source) (k : OpKey) : IsAction k (alu op src)
  | incReg (r : Reg8) (k : OpKey) : IsAction k (incReg r)
  | incHL (k : OpKey) : IsAction k incHL
  | decReg (r : Reg8) (k : OpKey) : IsAction k (decReg r)
  | decHL (k : OpKey) : IsAction k decHL
  | decimalAdjust (k : OpKey) : IsAction k decimalAdjust
  | complementA (k : OpKey) : IsAction k complementA
  | setCarry (k : OpKey) : IsAction k setCarry
  | complementCarry (k : OpKey) : IsAction k complementCarry
  | addHL (rr : Reg16) (k : OpKey) : IsAction k (addHL rr)
  | incPair (rr : Reg16) (k : OpKey) : IsAction k (incPair rr)
  | decPair (rr : Reg16) (k : OpKey) : IsAction k (decPair rr)
  | addSP (e : Byte) (k : OpKey) : IsAction k (addSP e)
  | rotateA (op : ShiftOp) (k : OpKey) : IsAction k (rotateA op)
  | shiftReg (op : ShiftOp) (r : Reg8) (k : OpKey) : IsAction k (shiftReg op r)
  | shiftHL (op : ShiftOp) (k : OpKey) : IsAction k (shiftHL op)
  | testReg (n : Fin 8) (r : Reg8) (k : OpKey) : IsAction k (testReg n r)
  | testHL (n : Fin 8) (k : OpKey) : IsAction k (testHL n)
  | clearReg (n : Fin 8) (r : Reg8) (k : OpKey) : IsAction k (clearReg n r)
  | clearHL (n : Fin 8) (k : OpKey) : IsAction k (clearHL n)
  | assertReg (n : Fin 8) (r : Reg8) (k : OpKey) : IsAction k (assertReg n r)
  | assertHL (n : Fin 8) (k : OpKey) : IsAction k (assertHL n)
  | jump (a : Word) (k : OpKey) : IsAction k (jump a)
  | jumpCond (cc : Cond) (a : Word) (k : OpKey) : IsAction k (jumpCond cc a)
  | jumpHL (k : OpKey) : IsAction k jumpHL
  | jumpRelative (e : Byte) (k : OpKey) : IsAction k (jumpRelative e)
  | jumpRelativeCond (cc : Cond) (e : Byte) (k : OpKey) : IsAction k (jumpRelativeCond cc e)
  | call (a : Word) (k : OpKey) : IsAction k (call a)
  | callCond (cc : Cond) (a : Word) (k : OpKey) : IsAction k (callCond cc a)
  | returnFromCall (k : OpKey) : IsAction k returnFromCall
  | returnCond (cc : Cond) (k : OpKey) : IsAction k (returnCond cc)
  | restart (t : Word) (k : OpKey) : IsAction k (restart t)
  | noOperation (k : OpKey) : IsAction k noOperation
  | loadAHigh (k : OpKey) : IsAction k fun st => loadA (highPage st.c) st
  | storeAHigh (k : OpKey) : IsAction k fun st => storeA (highPage st.c) st
  | enterHalt : IsAction (.base 0x76) enterHalt
  | enterStop (x : Byte) : IsAction (.base 0x10) (enterStop x)
  | disableInterrupts : IsAction (.base 0xF3) disableInterrupts
  | enableInterrupts : IsAction (.base 0xFB) enableInterrupts
  | returnAndEnable : IsAction (.base 0xD9) returnAndEnable

/-- How an instruction runs. -/
def RunsAction (i : Instr) : Prop :=
  ∃ act, IsAction i.key act ∧ ∀ s, exec i s = .next ((act s).retire i.key)

/-- Every instruction runs an action, or stands for a missing descriptor. -/
theorem exec_cases : (i : Instr) → RunsAction i ∨ ∃ key, (i = .illegal key ∨ i = .prefixCb key)
  | .nop => .inl ⟨_, .noOperation _, fun _ => rfl⟩
  | .ld_bc_d16 w => .inl ⟨_, .loadPair .bc w _, fun _ => rfl⟩
  | .ld_atBC_a => .inl ⟨_, .indStore .bc 0 _, fun _ => rfl⟩
  | .inc_bc => .inl ⟨_, .incPair .bc _, fun _ => rfl⟩
  | .inc_b => .inl ⟨_, .incReg .b _, fun _ => rfl⟩
  | .dec_b => .inl ⟨_, .decReg .b _, fun _ => rfl⟩
  | .ld_b_d8 n => .inl ⟨_, .loadImm .b n _, fun _ => rfl⟩
  | .rlca => .inl ⟨_, .rotateA .rlc _, fun _ => rfl⟩
  | .ld_atA16_sp a => .inl ⟨_, .storeSP a _, fun _ => rfl⟩
  | .add_hl_bc => .inl ⟨_, .addHL .bc _, fun _ => rfl⟩
  | .ld_a_atBC => .inl ⟨_, .indLoad .bc 0 _, fun _ => rfl⟩
  | .dec_bc => .inl ⟨_, .decPair .bc _, fun _ => rfl⟩
  | .inc_c => .inl ⟨_, .incReg .c _, fun _ => rfl⟩
  | .dec_c => .inl ⟨_, .decReg .c _, fun _ => rfl⟩
  | .ld_c_d8 n => .inl ⟨_, .loadImm .c n _, fun _ => rfl⟩
  | .rrca => .inl ⟨_, .rotateA .rrc _, fun _ => rfl⟩
  | .stop x => .inl ⟨_, .enterStop x, fun _ => rfl⟩
  | .ld_de_d16 w => .inl ⟨_, .loadPair .de w _, fun _ => rfl⟩
  | .ld_atDE_a => .inl ⟨_, .indStore .de 0 _, fun _ => rfl⟩
  | .inc_de => .inl ⟨_, .incPair .de _, fun _ => rfl⟩
  | .inc_d => .inl ⟨_, .incReg .d _, fun _ => rfl⟩
  | .dec_d => .inl ⟨_, .decReg .d _, fun _ => rfl⟩
  | .ld_d_d8 n => .inl ⟨_, .loadImm .d n _, fun _ => rfl⟩
  | .rla => .inl ⟨_, .rotateA .rl _, fun _ => rfl⟩
  | .jr_e8 e => .inl ⟨_, .jumpRelative e _, fun _ => rfl⟩
  | .add_hl_de => .inl ⟨_, .addHL .de _, fun _ => rfl⟩
  | .ld_a_atDE => .inl ⟨_, .indLoad .de 0 _, fun _ => rfl⟩
  | .dec_de => .inl ⟨_, .decPair .de _, fun _ => rfl⟩
  | .inc_e => .inl ⟨_, .incReg .e _, fun _ => rfl⟩
  | .dec_e => .inl ⟨_, .decReg .e _, fun _ => rfl⟩
  | .ld_e_d8 n => .inl ⟨_, .loadImm .e n _, fun _ => rfl⟩
  | .rra => .inl ⟨_, .rotateA .rr _, fun _ => rfl⟩
  | .jr_nz_e8 e => .inl ⟨_, .jumpRelativeCond .nz e _, fun _ => rfl⟩
  | .ld_hl_d16 w => .inl ⟨_, .loadPair .hl w _, fun _ => rfl⟩
  | .ld_atHLinc_a => .inl ⟨_, .indStore .hl 1 _, fun _ => rfl⟩
  | .inc_hl => .inl ⟨_, .incPair .hl _, fun _ => rfl⟩
  | .inc_h => .inl ⟨_, .incReg .h _, fun _ => rfl⟩
  | .dec_h => .inl ⟨_, .decReg .h _, fun _ => rfl⟩
  | .ld_h_d8 n => .inl ⟨_, .loadImm .h n _, fun _ => rfl⟩
  | .daa => .inl ⟨_, .decimalAdjust _, fun _ => rfl⟩
  | .jr_z_e8 e => .inl ⟨_, .jumpRelativeCond .z e _, fun _ => rfl⟩
  | .add_hl_hl => .inl ⟨_, .addHL .hl _, fun _ => rfl⟩
  | .ld_a_atHLinc => .inl ⟨_, .indLoad .hl 1 _, fun _ => rfl⟩
  | .dec_hl => .inl ⟨_, .decPair .hl _, fun _ => rfl⟩
  | .inc_l => .inl ⟨_, .incReg .l _, fun _ => rfl⟩
  | .dec_l => .inl ⟨_, .decReg .l _, fun _ => rfl⟩
  | .ld_l_d8 n => .inl ⟨_, .loadImm .l n _, fun _ => rfl⟩
  | .cpl => .inl ⟨_, .complementA _, fun _ => rfl⟩
  | .jr_nc_e8 e => .inl ⟨_, .jumpRelativeCond .nc e _, fun _ => rfl⟩
  | .ld_sp_d16 w => .inl ⟨_, .loadPair .sp w _, fun _ => rfl⟩
  | .ld_atHLdec_a => .inl ⟨_, .indStore .hl (-1) _, fun _ => rfl⟩
  | .inc_sp => .inl ⟨_, .incPair .sp _, fun _ => rfl⟩
  | .inc_atHL => .inl ⟨_, .incHL _, fun _ => rfl⟩
  | .dec_atHL => .inl ⟨_, .decHL _, fun _ => rfl⟩
  | .ld_atHL_d8 n => .inl ⟨_, .storeImm n _, fun _ => rfl⟩
  | .scf => .inl ⟨_, .setCarry _, fun _ => rfl⟩
  | .jr_c_e8 e => .inl ⟨_, .jumpRelativeCond .c e _, fun _ => rfl⟩
  | .add_hl_sp => .inl ⟨_, .addHL .sp _, fun _ => rfl⟩
  | .ld_a_atHLdec => .inl ⟨_, .indLoad .hl (-1) _, fun _ => rfl⟩
  | .dec_sp => .inl ⟨_, .decPair .sp _, fun _ => rfl⟩
  | .inc_a => .inl ⟨_, .incReg .a _, fun _ => rfl⟩
  | .dec_a => .inl ⟨_, .decReg .a _, fun _ => rfl⟩
  | .ld_a_d8 n => .inl ⟨_, .loadImm .a n _, fun _ => rfl⟩
  | .ccf => .inl ⟨_, .complementCarry _, fun _ => rfl⟩
  | .ld_b_b => .inl ⟨_, .loadReg .b .b _, fun _ => rfl⟩
  | .ld_b_c => .inl ⟨_, .loadReg .b .c _, fun _ => rfl⟩
  | .ld_b_d => .inl ⟨_, .loadReg .b .d _, fun _ => rfl⟩
  | .ld_b_e => .inl ⟨_, .loadReg .b .e _, fun _ => rfl⟩
  | .ld_b_h => .inl ⟨_, .loadReg .b .h _, fun _ => rfl⟩
  | .ld_b_l => .inl ⟨_, .loadReg .b .l _, fun _ => rfl⟩
  | .ld_b_atHL => .inl ⟨_, .loadFromHL .b _, fun _ => rfl⟩
  | .ld_b_a => .inl ⟨_, .loadReg .b .a _, fun _ => rfl⟩
  | .ld_c_b => .inl ⟨_, .loadReg .c .b _, fun _ => rfl⟩
  | .ld_c_c => .inl ⟨_, .loadReg .c .c _, fun _ => rfl⟩
  | .ld_c_d => .inl ⟨_, .loadReg .c .d _, fun _ => rfl⟩
  | .ld_c_e => .inl ⟨_, .loadReg .c .e _, fun _ => rfl⟩
  | .ld_c_h => .inl ⟨_, .loadReg .c .h _, fun _ => rfl⟩
  | .ld_c_l => .inl ⟨_, .loadReg .c .l _, fun _ => rfl⟩
  | .ld_c_atHL => .inl ⟨_, .loadFromHL .c _, fun _ => rfl⟩
  | .ld_c_a => .inl ⟨_, .loadReg .c .a _, fun _ => rfl⟩
  | .ld_d_b => .inl ⟨_, .loadReg .d .b _, fun _ => rfl⟩
  | .ld_d_c => .inl ⟨_, .loadReg .d .c _, fun _ => rfl⟩
  | .ld_d_d => .inl ⟨_, .loadReg .d .d _, fun _ => rfl⟩
  | .ld_d_e => .inl ⟨_, .loadReg .d .e _, fun _ => rfl⟩
  | .ld_d_h => .inl ⟨_, .loadReg .d .h _, fun _ => rfl⟩
  | .ld_d_l => .inl ⟨_, .loadReg .d .l _, fun _ => rfl⟩
  | .ld_d_atHL => .inl ⟨_, .loadFromHL .d _, fun _ => rfl⟩
  | .ld_d_a => .inl ⟨_, .loadReg .d .a _, fun _ => rfl⟩
  | .ld_e_b => .inl ⟨_, .loadReg .e .b _, fun _ => rfl⟩
  | .ld_e_c => .inl ⟨_, .loadReg .e .c _, fun _ => rfl⟩
  | .ld_e_d => .inl ⟨_, .loadReg .e .d _, fun _ => rfl⟩
  | .ld_e_e => .inl ⟨_, .loadReg .e .e _, fun _ => rfl⟩
  | .ld_e_h => .inl ⟨_, .loadReg .e .h _, fun _ => rfl⟩
  | .ld_e_l => .inl ⟨_, .loadReg .e .l _, fun _ => rfl⟩
  | .ld_e_atHL => .inl ⟨_, .loadFromHL .e _, fun _ => rfl⟩
  | .ld_e_a => .inl ⟨_, .loadReg .e .a _, fun _ => rfl⟩
  | .ld_h_b => .inl ⟨_, .loadReg .h .b _, fun _ => rfl⟩
  | .ld_h_c => .inl ⟨_, .loadReg .h .c _, fun _ => rfl⟩
  | .ld_h_d => .inl ⟨_, .loadReg .h .d _, fun _ => rfl⟩
  | .ld_h_e => .inl ⟨_, .loadReg .h .e _, fun _ => rfl⟩
  | .ld_h_h => .inl ⟨_, .loadReg .h .h _, fun _ => rfl⟩
  | .ld_h_l => .inl ⟨_, .loadReg .h .l _, fun _ => rfl⟩
  | .ld_h_atHL => .inl ⟨_, .loadFromHL .h _, fun _ => rfl⟩
  | .ld_h_a => .inl ⟨_, .loadReg .h .a _, fun _ => rfl⟩
  | .ld_l_b => .inl ⟨_, .loadReg .l .b _, fun _ => rfl⟩
  | .ld_l_c => .inl ⟨_, .loadReg .l .c _, fun _ => rfl⟩
  | .ld_l_d => .inl ⟨_, .loadReg .l .d _, fun _ => rfl⟩
  | .ld_l_e => .inl ⟨_, .loadReg .l .e _, fun _ => rfl⟩
  | .ld_l_h => .inl ⟨_, .loadReg .l .h _, fun _ => rfl⟩
  | .ld_l_l => .inl ⟨_, .loadReg .l .l _, fun _ => rfl⟩
  | .ld_l_atHL => .inl ⟨_, .loadFromHL .l _, fun _ => rfl⟩
  | .ld_l_a => .inl ⟨_, .loadReg .l .a _, fun _ => rfl⟩
  | .ld_atHL_b => .inl ⟨_, .storeReg .b _, fun _ => rfl⟩
  | .ld_atHL_c => .inl ⟨_, .storeReg .c _, fun _ => rfl⟩
  | .ld_atHL_d => .inl ⟨_, .storeReg .d _, fun _ => rfl⟩
  | .ld_atHL_e => .inl ⟨_, .storeReg .e _, fun _ => rfl⟩
  | .ld_atHL_h => .inl ⟨_, .storeReg .h _, fun _ => rfl⟩
  | .ld_atHL_l => .inl ⟨_, .storeReg .l _, fun _ => rfl⟩
  | .halt => .inl ⟨_, .enterHalt, fun _ => rfl⟩
  | .ld_atHL_a => .inl ⟨_, .storeReg .a _, fun _ => rfl⟩
  | .ld_a_b => .inl ⟨_, .loadReg .a .b _, fun _ => rfl⟩
  | .ld_a_c => .inl ⟨_, .loadReg .a .c _, fun _ => rfl⟩
  | .ld_a_d => .inl ⟨_, .loadReg .a .d _, fun _ => rfl⟩
  | .ld_a_e => .inl ⟨_, .loadReg .a .e _, fun _ => rfl⟩
  | .ld_a_h => .inl ⟨_, .loadReg .a .h _, fun _ => rfl⟩
  | .ld_a_l => .inl ⟨_, .loadReg .a .l _, fun _ => rfl⟩
  | .ld_a_atHL => .inl ⟨_, .loadFromHL .a _, fun _ => rfl⟩
  | .ld_a_a => .inl ⟨_, .loadReg .a .a _, fun _ => rfl⟩
  | .add_a_b => .inl ⟨_, .alu .add (.reg .b) _, fun _ => rfl⟩
  | .add_a_c => .inl ⟨_, .alu .add (.reg .c) _, fun _ => rfl⟩
  | .add_a_d => .inl ⟨_, .alu .add (.reg .d) _, fun _ => rfl⟩
  | .add_a_e => .inl ⟨_, .alu .add (.reg .e) _, fun _ => rfl⟩
  | .add_a_h => .inl ⟨_, .alu .add (.reg .h) _, fun _ => rfl⟩
  | .add_a_l => .inl ⟨_, .alu .add (.reg .l) _, fun _ => rfl⟩
  | .add_a_atHL => .inl ⟨_, .alu .add .atHL _, fun _ => rfl⟩
  | .add_a_a => .inl ⟨_, .alu .add (.reg .a) _, fun _ => rfl⟩
  | .adc_a_b => .inl ⟨_, .alu .adc (.reg .b) _, fun _ => rfl⟩
  | .adc_a_c => .inl ⟨_, .alu .adc (.reg .c) _, fun _ => rfl⟩
  | .adc_a_d => .inl ⟨_, .alu .adc (.reg .d) _, fun _ => rfl⟩
  | .adc_a_e => .inl ⟨_, .alu .adc (.reg .e) _, fun _ => rfl⟩
  | .adc_a_h => .inl ⟨_, .alu .adc (.reg .h) _, fun _ => rfl⟩
  | .adc_a_l => .inl ⟨_, .alu .adc (.reg .l) _, fun _ => rfl⟩
  | .adc_a_atHL => .inl ⟨_, .alu .adc .atHL _, fun _ => rfl⟩
  | .adc_a_a => .inl ⟨_, .alu .adc (.reg .a) _, fun _ => rfl⟩
  | .sub_b => .inl ⟨_, .alu .sub (.reg .b) _, fun _ => rfl⟩
  | .sub_c => .inl ⟨_, .alu .sub (.reg .c) _, fun _ => rfl⟩
  | .sub_d => .inl ⟨_, .alu .sub (.reg .d) _, fun _ => rfl⟩
  | .sub_e => .inl ⟨_, .alu .sub (.reg .e) _, fun _ => rfl⟩
  | .sub_h => .inl ⟨_, .alu .sub (.reg .h) _, fun _ => rfl⟩
  | .sub_l => .inl ⟨_, .alu .sub (.reg .l) _, fun _ => rfl⟩
  | .sub_atHL => .inl ⟨_, .alu .sub .atHL _, fun _ => rfl⟩
  | .sub_a => .inl ⟨_, .alu .sub (.reg .a) _, fun _ => rfl⟩
  | .sbc_a_b => .inl ⟨_, .alu .sbc (.reg .b) _, fun _ => rfl⟩
  | .sbc_a_c => .inl ⟨_, .alu .sbc (.reg .c) _, fun _ => rfl⟩
  | .sbc_a_d => .inl ⟨_, .alu .sbc (.reg .d) _, fun _ => rfl⟩
  | .sbc_a_e => .inl ⟨_, .alu .sbc (.reg .e) _, fun _ => rfl⟩
  | .sbc_a_h => .inl ⟨_, .alu .sbc (.reg .h) _, fun _ => rfl⟩
  | .sbc_a_l => .inl ⟨_, .alu .sbc (.reg .l) _, fun _ => rfl⟩
  | .sbc_a_atHL => .inl ⟨_, .alu .sbc .atHL _, fun _ => rfl⟩
  | .sbc_a_a => .inl ⟨_, .alu .sbc (.reg .a) _, fun _ => rfl⟩
  | .and_b => .inl ⟨_, .alu .and (.reg .b) _, fun _ => rfl⟩
  | .and_c => .inl ⟨_, .alu .and (.reg .c) _, fun _ => rfl⟩
  | .and_d => .inl ⟨_, .alu .and (.reg .d) _, fun _ => rfl⟩
  | .and_e => .inl ⟨_, .alu .and (.reg .e) _, fun _ => rfl⟩
  | .and_h => .inl ⟨_, .alu .and (.reg .h) _, fun _ => rfl⟩
  | .and_l => .inl ⟨_, .alu .and (.reg .l) _, fun _ => rfl⟩
  | .and_atHL => .inl ⟨_, .alu .and .atHL _, fun _ => rfl⟩
  | .and_a => .inl ⟨_, .alu .and (.reg .a) _, fun _ => rfl⟩
  | .xor_b => .inl ⟨_, .alu .xor (.reg .b) _, fun _ => rfl⟩
  | .xor_c => .inl ⟨_, .alu .xor (.reg .c) _, fun _ => rfl⟩
  | .xor_d => .inl ⟨_, .alu .xor (.reg .d) _, fun _ => rfl⟩
  | .xor_e => .inl ⟨_, .alu .xor (.reg .e) _, fun _ => rfl⟩
  | .xor_h => .inl ⟨_, .alu .xor (.reg .h) _, fun _ => rfl⟩
  | .xor_l => .inl ⟨_, .alu .xor (.reg .l) _, fun _ => rfl⟩
  | .xor_atHL => .inl ⟨_, .alu .xor .atHL _, fun _ => rfl⟩
  | .xor_a => .inl ⟨_, .alu .xor (.reg .a) _, fun _ => rfl⟩
  | .or_b => .inl ⟨_, .alu .or (.reg .b) _, fun _ => rfl⟩
  | .or_c => .inl ⟨_, .alu .or (.reg .c) _, fun _ => rfl⟩
  | .or_d => .inl ⟨_, .alu .or (.reg .d) _, fun _ => rfl⟩
  | .or_e => .inl ⟨_, .alu .or (.reg .e) _, fun _ => rfl⟩
  | .or_h => .inl ⟨_, .alu .or (.reg .h) _, fun _ => rfl⟩
  | .or_l => .inl ⟨_, .alu .or (.reg .l) _, fun _ => rfl⟩
  | .or_atHL => .inl ⟨_, .alu .or .atHL _, fun _ => rfl⟩
  | .or_a => .inl ⟨_, .alu .or (.reg .a) _, fun _ => rfl⟩
  | .cp_b => .inl ⟨_, .alu .cp (.reg .b) _, fun _ => rfl⟩
  | .cp_c => .inl ⟨_, .alu .cp (.reg .c) _, fun _ => rfl⟩
  | .cp_d => .inl ⟨_, .alu .cp (.reg .d) _, fun _ => rfl⟩
  | .cp_e => .inl ⟨_, .alu .cp (.reg .e) _, fun _ => rfl⟩
  | .cp_h => .inl ⟨_, .alu .cp (.reg .h) _, fun _ => rfl⟩
  | .cp_l => .inl ⟨_, .alu .cp (.reg .l) _, fun _ => rfl⟩
  | .cp_atHL => .inl ⟨_, .alu .cp .atHL _, fun _ => rfl⟩
  | .cp_a => .inl ⟨_, .alu .cp (.reg .a) _, fun _ => rfl⟩
  | .ret_nz => .inl ⟨_, .returnCond .nz _, fun _ => rfl⟩
  | .pop_bc => .inl ⟨_, .pop .bc _, fun _ => rfl⟩
  | .jp_nz_a16 a => .inl ⟨_, .jumpCond .nz a _, fun _ => rfl⟩
  | .jp_a16 a => .inl ⟨_, .jump a _, fun _ => rfl⟩
  | .call_nz_a16 a => .inl ⟨_, .callCond .nz a _, fun _ => rfl⟩
  | .push_bc => .inl ⟨_, .push .bc _, fun _ => rfl⟩
  | .add_a_d8 n => .inl ⟨_, .alu .add (.imm n) _, fun _ => rfl⟩
  | .rst_00h => .inl ⟨_, .restart 0x0000 _, fun _ => rfl⟩
  | .ret_z => .inl ⟨_, .returnCond .z _, fun _ => rfl⟩
  | .ret => .inl ⟨_, .returnFromCall _, fun _ => rfl⟩
  | .jp_z_a16 a => .inl ⟨_, .jumpCond .z a _, fun _ => rfl⟩
  | .prefixCb key => .inr ⟨key, .inr rfl⟩
  | .call_z_a16 a => .inl ⟨_, .callCond .z a _, fun _ => rfl⟩
  | .call_a16 a => .inl ⟨_, .call a _, fun _ => rfl⟩
  | .adc_a_d8 n => .inl ⟨_, .alu .adc (.imm n) _, fun _ => rfl⟩
  | .rst_08h => .inl ⟨_, .restart 0x0008 _, fun _ => rfl⟩
  | .ret_nc => .inl ⟨_, .returnCond .nc _, fun _ => rfl⟩
  | .pop_de => .inl ⟨_, .pop .de _, fun _ => rfl⟩
  | .jp_nc_a16 a => .inl ⟨_, .jumpCond .nc a _, fun _ => rfl⟩
  | .illegal key => .inr ⟨key, .inl rfl⟩
  | .call_nc_a16 a => .inl ⟨_, .callCond .nc a _, fun _ => rfl⟩
  | .push_de => .inl ⟨_, .push .de _, fun _ => rfl⟩
  | .sub_d8 n => .inl ⟨_, .alu .sub (.imm n) _, fun _ => rfl⟩
  | .rst_10h => .inl ⟨_, .restart 0x0010 _, fun _ => rfl⟩
  | .ret_c => .inl ⟨_, .returnCond .c _, fun _ => rfl⟩
  | .reti => .inl ⟨_, .returnAndEnable, fun _ => rfl⟩
  | .jp_c_a16 a => .inl ⟨_, .jumpCond .c a _, fun _ => rfl⟩
  | .call_c_a16 a => .inl ⟨_, .callCond .c a _, fun _ => rfl⟩
  | .sbc_a_d8 n => .inl ⟨_, .alu .sbc (.imm n) _, fun _ => rfl⟩
  | .rst_18h => .inl ⟨_, .restart 0x0018 _, fun _ => rfl⟩
  | .ldh_atA8_a n => .inl ⟨_, .storeA (highPage n) _, fun _ => rfl⟩
  | .pop_hl => .inl ⟨_, .pop .hl _, fun _ => rfl⟩
  | .ld_atC_a => .inl ⟨_, .storeAHigh _, fun _ => rfl⟩
  | .push_hl => .inl ⟨_, .push .hl _, fun _ => rfl⟩
  | .and_d8 n => .inl ⟨_, .alu .and (.imm n) _, fun _ => rfl⟩
  | .rst_20h => .inl ⟨_, .restart 0x0020 _, fun _ => rfl⟩
  | .add_sp_e8 e => .inl ⟨_, .addSP e _, fun _ => rfl⟩
  | .jp_hl => .inl ⟨_, .jumpHL _, fun _ => rfl⟩
  | .ld_atA16_a a => .inl ⟨_, .storeA a _, fun _ => rfl⟩
  | .xor_d8 n => .inl ⟨_, .alu .xor (.imm n) _, fun _ => rfl⟩
  | .rst_28h => .inl ⟨_, .restart 0x0028 _, fun _ => rfl⟩
  | .ldh_a_atA8 n => .inl ⟨_, .loadA (highPage n) _, fun _ => rfl⟩
  | .pop_af => .inl ⟨_, .pop .af _, fun _ => rfl⟩
  | .ld_a_atC => .inl ⟨_, .loadAHigh _, fun _ => rfl⟩
  | .di => .inl ⟨_, .disableInterrupts, fun _ => rfl⟩
  | .push_af => .inl ⟨_, .push .af _, fun _ => rfl⟩
  | .or_d8 n => .inl ⟨_, .alu .or (.imm n) _, fun _ => rfl⟩
  | .rst_30h => .inl ⟨_, .restart 0x0030 _, fun _ => rfl⟩
  | .ld_hl_spE8 e => .inl ⟨_, .loadHLFromSP e _, fun _ => rfl⟩
  | .ld_sp_hl => .inl ⟨_, .loadSPFromHL _, fun _ => rfl⟩
  | .ld_a_atA16 a => .inl ⟨_, .loadA a _, fun _ => rfl⟩
  | .ei => .inl ⟨_, .enableInterrupts, fun _ => rfl⟩
  | .cp_d8 n => .inl ⟨_, .alu .cp (.imm n) _, fun _ => rfl⟩
  | .rst_38h => .inl ⟨_, .restart 0x0038 _, fun _ => rfl⟩
  | .rlc_b => .inl ⟨_, .shiftReg .rlc .b _, fun _ => rfl⟩
  | .rlc_c => .inl ⟨_, .shiftReg .rlc .c _, fun _ => rfl⟩
  | .rlc_d => .inl ⟨_, .shiftReg .rlc .d _, fun _ => rfl⟩
  | .rlc_e => .inl ⟨_, .shiftReg .rlc .e _, fun _ => rfl⟩
  | .rlc_h => .inl ⟨_, .shiftReg .rlc .h _, fun _ => rfl⟩
  | .rlc_l => .inl ⟨_, .shiftReg .rlc .l _, fun _ => rfl⟩
  | .rlc_atHL => .inl ⟨_, .shiftHL .rlc _, fun _ => rfl⟩
  | .rlc_a => .inl ⟨_, .shiftReg .rlc .a _, fun _ => rfl⟩
  | .rrc_b => .inl ⟨_, .shiftReg .rrc .b _, fun _ => rfl⟩
  | .rrc_c => .inl ⟨_, .shiftReg .rrc .c _, fun _ => rfl⟩
  | .rrc_d => .inl ⟨_, .shiftReg .rrc .d _, fun _ => rfl⟩
  | .rrc_e => .inl ⟨_, .shiftReg .rrc .e _, fun _ => rfl⟩
  | .rrc_h => .inl ⟨_, .shiftReg .rrc .h _, fun _ => rfl⟩
  | .rrc_l => .inl ⟨_, .shiftReg .rrc .l _, fun _ => rfl⟩
  | .rrc_atHL => .inl ⟨_, .shiftHL .rrc _, fun _ => rfl⟩
  | .rrc_a => .inl ⟨_, .shiftReg .rrc .a _, fun _ => rfl⟩
  | .rl_b => .inl ⟨_, .shiftReg .rl .b _, fun _ => rfl⟩
  | .rl_c => .inl ⟨_, .shiftReg .rl .c _, fun _ => rfl⟩
  | .rl_d => .inl ⟨_, .shiftReg .rl .d _, fun _ => rfl⟩
  | .rl_e => .inl ⟨_, .shiftReg .rl .e _, fun _ => rfl⟩
  | .rl_h => .inl ⟨_, .shiftReg .rl .h _, fun _ => rfl⟩
  | .rl_l => .inl ⟨_, .shiftReg .rl .l _, fun _ => rfl⟩
  | .rl_atHL => .inl ⟨_, .shiftHL .rl _, fun _ => rfl⟩
  | .rl_a => .inl ⟨_, .shiftReg .rl .a _, fun _ => rfl⟩
  | .rr_b => .inl ⟨_, .shiftReg .rr .b _, fun _ => rfl⟩
  | .rr_c => .inl ⟨_, .shiftReg .rr .c _, fun _ => rfl⟩
  | .rr_d => .inl ⟨_, .shiftReg .rr .d _, fun _ => rfl⟩
  | .rr_e => .inl ⟨_, .shiftReg .rr .e _, fun _ => rfl⟩
  | .rr_h => .inl ⟨_, .shiftReg .rr .h _, fun _ => rfl⟩
  | .rr_l => .inl ⟨_, .shiftReg .rr .l _, fun _ => rfl⟩
  | .rr_atHL => .inl ⟨_, .shiftHL .rr _, fun _ => rfl⟩
  | .rr_a => .inl ⟨_, .shiftReg .rr .a _, fun _ => rfl⟩
  | .sla_b => .inl ⟨_, .shiftReg .sla .b _, fun _ => rfl⟩
  | .sla_c => .inl ⟨_, .shiftReg .sla .c _, fun _ => rfl⟩
  | .sla_d => .inl ⟨_, .shiftReg .sla .d _, fun _ => rfl⟩
  | .sla_e => .inl ⟨_, .shiftReg .sla .e _, fun _ => rfl⟩
  | .sla_h => .inl ⟨_, .shiftReg .sla .h _, fun _ => rfl⟩
  | .sla_l => .inl ⟨_, .shiftReg .sla .l _, fun _ => rfl⟩
  | .sla_atHL => .inl ⟨_, .shiftHL .sla _, fun _ => rfl⟩
  | .sla_a => .inl ⟨_, .shiftReg .sla .a _, fun _ => rfl⟩
  | .sra_b => .inl ⟨_, .shiftReg .sra .b _, fun _ => rfl⟩
  | .sra_c => .inl ⟨_, .shiftReg .sra .c _, fun _ => rfl⟩
  | .sra_d => .inl ⟨_, .shiftReg .sra .d _, fun _ => rfl⟩
  | .sra_e => .inl ⟨_, .shiftReg .sra .e _, fun _ => rfl⟩
  | .sra_h => .inl ⟨_, .shiftReg .sra .h _, fun _ => rfl⟩
  | .sra_l => .inl ⟨_, .shiftReg .sra .l _, fun _ => rfl⟩
  | .sra_atHL => .inl ⟨_, .shiftHL .sra _, fun _ => rfl⟩
  | .sra_a => .inl ⟨_, .shiftReg .sra .a _, fun _ => rfl⟩
  | .swap_b => .inl ⟨_, .shiftReg .swap .b _, fun _ => rfl⟩
  | .swap_c => .inl ⟨_, .shiftReg .swap .c _, fun _ => rfl⟩
  | .swap_d => .inl ⟨_, .shiftReg .swap .d _, fun _ => rfl⟩
  | .swap_e => .inl ⟨_, .shiftReg .swap .e _, fun _ => rfl⟩
  | .swap_h => .inl ⟨_, .shiftReg .swap .h _, fun _ => rfl⟩
  | .swap_l => .inl ⟨_, .shiftReg .swap .l _, fun _ => rfl⟩
  | .swap_atHL => .inl ⟨_, .shiftHL .swap _, fun _ => rfl⟩
  | .swap_a => .inl ⟨_, .shiftReg .swap .a _, fun _ => rfl⟩
  | .srl_b => .inl ⟨_, .shiftReg .srl .b _, fun _ => rfl⟩
  | .srl_c => .inl ⟨_, .shiftReg .srl .c _, fun _ => rfl⟩
  | .srl_d => .inl ⟨_, .shiftReg .srl .d _, fun _ => rfl⟩
  | .srl_e => .inl ⟨_, .shiftReg .srl .e _, fun _ => rfl⟩
  | .srl_h => .inl ⟨_, .shiftReg .srl .h _, fun _ => rfl⟩
  | .srl_l => .inl ⟨_, .shiftReg .srl .l _, fun _ => rfl⟩
  | .srl_atHL => .inl ⟨_, .shiftHL .srl _, fun _ => rfl⟩
  | .srl_a => .inl ⟨_, .shiftReg .srl .a _, fun _ => rfl⟩
  | .bit_0_b => .inl ⟨_, .testReg 0 .b _, fun _ => rfl⟩
  | .bit_0_c => .inl ⟨_, .testReg 0 .c _, fun _ => rfl⟩
  | .bit_0_d => .inl ⟨_, .testReg 0 .d _, fun _ => rfl⟩
  | .bit_0_e => .inl ⟨_, .testReg 0 .e _, fun _ => rfl⟩
  | .bit_0_h => .inl ⟨_, .testReg 0 .h _, fun _ => rfl⟩
  | .bit_0_l => .inl ⟨_, .testReg 0 .l _, fun _ => rfl⟩
  | .bit_0_atHL => .inl ⟨_, .testHL 0 _, fun _ => rfl⟩
  | .bit_0_a => .inl ⟨_, .testReg 0 .a _, fun _ => rfl⟩
  | .bit_1_b => .inl ⟨_, .testReg 1 .b _, fun _ => rfl⟩
  | .bit_1_c => .inl ⟨_, .testReg 1 .c _, fun _ => rfl⟩
  | .bit_1_d => .inl ⟨_, .testReg 1 .d _, fun _ => rfl⟩
  | .bit_1_e => .inl ⟨_, .testReg 1 .e _, fun _ => rfl⟩
  | .bit_1_h => .inl ⟨_, .testReg 1 .h _, fun _ => rfl⟩
  | .bit_1_l => .inl ⟨_, .testReg 1 .l _, fun _ => rfl⟩
  | .bit_1_atHL => .inl ⟨_, .testHL 1 _, fun _ => rfl⟩
  | .bit_1_a => .inl ⟨_, .testReg 1 .a _, fun _ => rfl⟩
  | .bit_2_b => .inl ⟨_, .testReg 2 .b _, fun _ => rfl⟩
  | .bit_2_c => .inl ⟨_, .testReg 2 .c _, fun _ => rfl⟩
  | .bit_2_d => .inl ⟨_, .testReg 2 .d _, fun _ => rfl⟩
  | .bit_2_e => .inl ⟨_, .testReg 2 .e _, fun _ => rfl⟩
  | .bit_2_h => .inl ⟨_, .testReg 2 .h _, fun _ => rfl⟩
  | .bit_2_l => .inl ⟨_, .testReg 2 .l _, fun _ => rfl⟩
  | .bit_2_atHL => .inl ⟨_, .testHL 2 _, fun _ => rfl⟩
  | .bit_2_a => .inl ⟨_, .testReg 2 .a _, fun _ => rfl⟩
  | .bit_3_b => .inl ⟨_, .testReg 3 .b _, fun _ => rfl⟩
  | .bit_3_c => .inl ⟨_, .testReg 3 .c _, fun _ => rfl⟩
  | .bit_3_d => .inl ⟨_, .testReg 3 .d _, fun _ => rfl⟩
  | .bit_3_e => .inl ⟨_, .testReg 3 .e _, fun _ => rfl⟩
  | .bit_3_h => .inl ⟨_, .testReg 3 .h _, fun _ => rfl⟩
  | .bit_3_l => .inl ⟨_, .testReg 3 .l _, fun _ => rfl⟩
  | .bit_3_atHL => .inl ⟨_, .testHL 3 _, fun _ => rfl⟩
  | .bit_3_a => .inl ⟨_, .testReg 3 .a _, fun _ => rfl⟩
  | .bit_4_b => .inl ⟨_, .testReg 4 .b _, fun _ => rfl⟩
  | .bit_4_c => .inl ⟨_, .testReg 4 .c _, fun _ => rfl⟩
  | .bit_4_d => .inl ⟨_, .testReg 4 .d _, fun _ => rfl⟩
  | .bit_4_e => .inl ⟨_, .testReg 4 .e _, fun _ => rfl⟩
  | .bit_4_h => .inl ⟨_, .testReg 4 .h _, fun _ => rfl⟩
  | .bit_4_l => .inl ⟨_, .testReg 4 .l _, fun _ => rfl⟩
  | .bit_4_atHL => .inl ⟨_, .testHL 4 _, fun _ => rfl⟩
  | .bit_4_a => .inl ⟨_, .testReg 4 .a _, fun _ => rfl⟩
  | .bit_5_b => .inl ⟨_, .testReg 5 .b _, fun _ => rfl⟩
  | .bit_5_c => .inl ⟨_, .testReg 5 .c _, fun _ => rfl⟩
  | .bit_5_d => .inl ⟨_, .testReg 5 .d _, fun _ => rfl⟩
  | .bit_5_e => .inl ⟨_, .testReg 5 .e _, fun _ => rfl⟩
  | .bit_5_h => .inl ⟨_, .testReg 5 .h _, fun _ => rfl⟩
  | .bit_5_l => .inl ⟨_, .testReg 5 .l _, fun _ => rfl⟩
  | .bit_5_atHL => .inl ⟨_, .testHL 5 _, fun _ => rfl⟩
  | .bit_5_a => .inl ⟨_, .testReg 5 .a _, fun _ => rfl⟩
  | .bit_6_b => .inl ⟨_, .testReg 6 .b _, fun _ => rfl⟩
  | .bit_6_c => .inl ⟨_, .testReg 6 .c _, fun _ => rfl⟩
  | .bit_6_d => .inl ⟨_, .testReg 6 .d _, fun _ => rfl⟩
  | .bit_6_e => .inl ⟨_, .testReg 6 .e _, fun _ => rfl⟩
  | .bit_6_h => .inl ⟨_, .testReg 6 .h _, fun _ => rfl⟩
  | .bit_6_l => .inl ⟨_, .testReg 6 .l _, fun _ => rfl⟩
  | .bit_6_atHL => .inl ⟨_, .testHL 6 _, fun _ => rfl⟩
  | .bit_6_a => .inl ⟨_, .testReg 6 .a _, fun _ => rfl⟩
  | .bit_7_b => .inl ⟨_, .testReg 7 .b _, fun _ => rfl⟩
  | .bit_7_c => .inl ⟨_, .testReg 7 .c _, fun _ => rfl⟩
  | .bit_7_d => .inl ⟨_, .testReg 7 .d _, fun _ => rfl⟩
  | .bit_7_e => .inl ⟨_, .testReg 7 .e _, fun _ => rfl⟩
  | .bit_7_h => .inl ⟨_, .testReg 7 .h _, fun _ => rfl⟩
  | .bit_7_l => .inl ⟨_, .testReg 7 .l _, fun _ => rfl⟩
  | .bit_7_atHL => .inl ⟨_, .testHL 7 _, fun _ => rfl⟩
  | .bit_7_a => .inl ⟨_, .testReg 7 .a _, fun _ => rfl⟩
  | .res_0_b => .inl ⟨_, .clearReg 0 .b _, fun _ => rfl⟩
  | .res_0_c => .inl ⟨_, .clearReg 0 .c _, fun _ => rfl⟩
  | .res_0_d => .inl ⟨_, .clearReg 0 .d _, fun _ => rfl⟩
  | .res_0_e => .inl ⟨_, .clearReg 0 .e _, fun _ => rfl⟩
  | .res_0_h => .inl ⟨_, .clearReg 0 .h _, fun _ => rfl⟩
  | .res_0_l => .inl ⟨_, .clearReg 0 .l _, fun _ => rfl⟩
  | .res_0_atHL => .inl ⟨_, .clearHL 0 _, fun _ => rfl⟩
  | .res_0_a => .inl ⟨_, .clearReg 0 .a _, fun _ => rfl⟩
  | .res_1_b => .inl ⟨_, .clearReg 1 .b _, fun _ => rfl⟩
  | .res_1_c => .inl ⟨_, .clearReg 1 .c _, fun _ => rfl⟩
  | .res_1_d => .inl ⟨_, .clearReg 1 .d _, fun _ => rfl⟩
  | .res_1_e => .inl ⟨_, .clearReg 1 .e _, fun _ => rfl⟩
  | .res_1_h => .inl ⟨_, .clearReg 1 .h _, fun _ => rfl⟩
  | .res_1_l => .inl ⟨_, .clearReg 1 .l _, fun _ => rfl⟩
  | .res_1_atHL => .inl ⟨_, .clearHL 1 _, fun _ => rfl⟩
  | .res_1_a => .inl ⟨_, .clearReg 1 .a _, fun _ => rfl⟩
  | .res_2_b => .inl ⟨_, .clearReg 2 .b _, fun _ => rfl⟩
  | .res_2_c => .inl ⟨_, .clearReg 2 .c _, fun _ => rfl⟩
  | .res_2_d => .inl ⟨_, .clearReg 2 .d _, fun _ => rfl⟩
  | .res_2_e => .inl ⟨_, .clearReg 2 .e _, fun _ => rfl⟩
  | .res_2_h => .inl ⟨_, .clearReg 2 .h _, fun _ => rfl⟩
  | .res_2_l => .inl ⟨_, .clearReg 2 .l _, fun _ => rfl⟩
  | .res_2_atHL => .inl ⟨_, .clearHL 2 _, fun _ => rfl⟩
  | .res_2_a => .inl ⟨_, .clearReg 2 .a _, fun _ => rfl⟩
  | .res_3_b => .inl ⟨_, .clearReg 3 .b _, fun _ => rfl⟩
  | .res_3_c => .inl ⟨_, .clearReg 3 .c _, fun _ => rfl⟩
  | .res_3_d => .inl ⟨_, .clearReg 3 .d _, fun _ => rfl⟩
  | .res_3_e => .inl ⟨_, .clearReg 3 .e _, fun _ => rfl⟩
  | .res_3_h => .inl ⟨_, .clearReg 3 .h _, fun _ => rfl⟩
  | .res_3_l => .inl ⟨_, .clearReg 3 .l _, fun _ => rfl⟩
  | .res_3_atHL => .inl ⟨_, .clearHL 3 _, fun _ => rfl⟩
  | .res_3_a => .inl ⟨_, .clearReg 3 .a _, fun _ => rfl⟩
  | .res_4_b => .inl ⟨_, .clearReg 4 .b _, fun _ => rfl⟩
  | .res_4_c => .inl ⟨_, .clearReg 4 .c _, fun _ => rfl⟩
  | .res_4_d => .inl ⟨_, .clearReg 4 .d _, fun _ => rfl⟩
  | .res_4_e => .inl ⟨_, .clearReg 4 .e _, fun _ => rfl⟩
  | .res_4_h => .inl ⟨_, .clearReg 4 .h _, fun _ => rfl⟩
  | .res_4_l => .inl ⟨_, .clearReg 4 .l _, fun _ => rfl⟩
  | .res_4_atHL => .inl ⟨_, .clearHL 4 _, fun _ => rfl⟩
  | .res_4_a => .inl ⟨_, .clearReg 4 .a _, fun _ => rfl⟩
  | .res_5_b => .inl ⟨_, .clearReg 5 .b _, fun _ => rfl⟩
  | .res_5_c => .inl ⟨_, .clearReg 5 .c _, fun _ => rfl⟩
  | .res_5_d => .inl ⟨_, .clearReg 5 .d _, fun _ => rfl⟩
  | .res_5_e => .inl ⟨_, .clearReg 5 .e _, fun _ => rfl⟩
  | .res_5_h => .inl ⟨_, .clearReg 5 .h _, fun _ => rfl⟩
  | .res_5_l => .inl ⟨_, .clearReg 5 .l _, fun _ => rfl⟩
  | .res_5_atHL => .inl ⟨_, .clearHL 5 _, fun _ => rfl⟩
  | .res_5_a => .inl ⟨_, .clearReg 5 .a _, fun _ => rfl⟩
  | .res_6_b => .inl ⟨_, .clearReg 6 .b _, fun _ => rfl⟩
  | .res_6_c => .inl ⟨_, .clearReg 6 .c _, fun _ => rfl⟩
  | .res_6_d => .inl ⟨_, .clearReg 6 .d _, fun _ => rfl⟩
  | .res_6_e => .inl ⟨_, .clearReg 6 .e _, fun _ => rfl⟩
  | .res_6_h => .inl ⟨_, .clearReg 6 .h _, fun _ => rfl⟩
  | .res_6_l => .inl ⟨_, .clearReg 6 .l _, fun _ => rfl⟩
  | .res_6_atHL => .inl ⟨_, .clearHL 6 _, fun _ => rfl⟩
  | .res_6_a => .inl ⟨_, .clearReg 6 .a _, fun _ => rfl⟩
  | .res_7_b => .inl ⟨_, .clearReg 7 .b _, fun _ => rfl⟩
  | .res_7_c => .inl ⟨_, .clearReg 7 .c _, fun _ => rfl⟩
  | .res_7_d => .inl ⟨_, .clearReg 7 .d _, fun _ => rfl⟩
  | .res_7_e => .inl ⟨_, .clearReg 7 .e _, fun _ => rfl⟩
  | .res_7_h => .inl ⟨_, .clearReg 7 .h _, fun _ => rfl⟩
  | .res_7_l => .inl ⟨_, .clearReg 7 .l _, fun _ => rfl⟩
  | .res_7_atHL => .inl ⟨_, .clearHL 7 _, fun _ => rfl⟩
  | .res_7_a => .inl ⟨_, .clearReg 7 .a _, fun _ => rfl⟩
  | .set_0_b => .inl ⟨_, .assertReg 0 .b _, fun _ => rfl⟩
  | .set_0_c => .inl ⟨_, .assertReg 0 .c _, fun _ => rfl⟩
  | .set_0_d => .inl ⟨_, .assertReg 0 .d _, fun _ => rfl⟩
  | .set_0_e => .inl ⟨_, .assertReg 0 .e _, fun _ => rfl⟩
  | .set_0_h => .inl ⟨_, .assertReg 0 .h _, fun _ => rfl⟩
  | .set_0_l => .inl ⟨_, .assertReg 0 .l _, fun _ => rfl⟩
  | .set_0_atHL => .inl ⟨_, .assertHL 0 _, fun _ => rfl⟩
  | .set_0_a => .inl ⟨_, .assertReg 0 .a _, fun _ => rfl⟩
  | .set_1_b => .inl ⟨_, .assertReg 1 .b _, fun _ => rfl⟩
  | .set_1_c => .inl ⟨_, .assertReg 1 .c _, fun _ => rfl⟩
  | .set_1_d => .inl ⟨_, .assertReg 1 .d _, fun _ => rfl⟩
  | .set_1_e => .inl ⟨_, .assertReg 1 .e _, fun _ => rfl⟩
  | .set_1_h => .inl ⟨_, .assertReg 1 .h _, fun _ => rfl⟩
  | .set_1_l => .inl ⟨_, .assertReg 1 .l _, fun _ => rfl⟩
  | .set_1_atHL => .inl ⟨_, .assertHL 1 _, fun _ => rfl⟩
  | .set_1_a => .inl ⟨_, .assertReg 1 .a _, fun _ => rfl⟩
  | .set_2_b => .inl ⟨_, .assertReg 2 .b _, fun _ => rfl⟩
  | .set_2_c => .inl ⟨_, .assertReg 2 .c _, fun _ => rfl⟩
  | .set_2_d => .inl ⟨_, .assertReg 2 .d _, fun _ => rfl⟩
  | .set_2_e => .inl ⟨_, .assertReg 2 .e _, fun _ => rfl⟩
  | .set_2_h => .inl ⟨_, .assertReg 2 .h _, fun _ => rfl⟩
  | .set_2_l => .inl ⟨_, .assertReg 2 .l _, fun _ => rfl⟩
  | .set_2_atHL => .inl ⟨_, .assertHL 2 _, fun _ => rfl⟩
  | .set_2_a => .inl ⟨_, .assertReg 2 .a _, fun _ => rfl⟩
  | .set_3_b => .inl ⟨_, .assertReg 3 .b _, fun _ => rfl⟩
  | .set_3_c => .inl ⟨_, .assertReg 3 .c _, fun _ => rfl⟩
  | .set_3_d => .inl ⟨_, .assertReg 3 .d _, fun _ => rfl⟩
  | .set_3_e => .inl ⟨_, .assertReg 3 .e _, fun _ => rfl⟩
  | .set_3_h => .inl ⟨_, .assertReg 3 .h _, fun _ => rfl⟩
  | .set_3_l => .inl ⟨_, .assertReg 3 .l _, fun _ => rfl⟩
  | .set_3_atHL => .inl ⟨_, .assertHL 3 _, fun _ => rfl⟩
  | .set_3_a => .inl ⟨_, .assertReg 3 .a _, fun _ => rfl⟩
  | .set_4_b => .inl ⟨_, .assertReg 4 .b _, fun _ => rfl⟩
  | .set_4_c => .inl ⟨_, .assertReg 4 .c _, fun _ => rfl⟩
  | .set_4_d => .inl ⟨_, .assertReg 4 .d _, fun _ => rfl⟩
  | .set_4_e => .inl ⟨_, .assertReg 4 .e _, fun _ => rfl⟩
  | .set_4_h => .inl ⟨_, .assertReg 4 .h _, fun _ => rfl⟩
  | .set_4_l => .inl ⟨_, .assertReg 4 .l _, fun _ => rfl⟩
  | .set_4_atHL => .inl ⟨_, .assertHL 4 _, fun _ => rfl⟩
  | .set_4_a => .inl ⟨_, .assertReg 4 .a _, fun _ => rfl⟩
  | .set_5_b => .inl ⟨_, .assertReg 5 .b _, fun _ => rfl⟩
  | .set_5_c => .inl ⟨_, .assertReg 5 .c _, fun _ => rfl⟩
  | .set_5_d => .inl ⟨_, .assertReg 5 .d _, fun _ => rfl⟩
  | .set_5_e => .inl ⟨_, .assertReg 5 .e _, fun _ => rfl⟩
  | .set_5_h => .inl ⟨_, .assertReg 5 .h _, fun _ => rfl⟩
  | .set_5_l => .inl ⟨_, .assertReg 5 .l _, fun _ => rfl⟩
  | .set_5_atHL => .inl ⟨_, .assertHL 5 _, fun _ => rfl⟩
  | .set_5_a => .inl ⟨_, .assertReg 5 .a _, fun _ => rfl⟩
  | .set_6_b => .inl ⟨_, .assertReg 6 .b _, fun _ => rfl⟩
  | .set_6_c => .inl ⟨_, .assertReg 6 .c _, fun _ => rfl⟩
  | .set_6_d => .inl ⟨_, .assertReg 6 .d _, fun _ => rfl⟩
  | .set_6_e => .inl ⟨_, .assertReg 6 .e _, fun _ => rfl⟩
  | .set_6_h => .inl ⟨_, .assertReg 6 .h _, fun _ => rfl⟩
  | .set_6_l => .inl ⟨_, .assertReg 6 .l _, fun _ => rfl⟩
  | .set_6_atHL => .inl ⟨_, .assertHL 6 _, fun _ => rfl⟩
  | .set_6_a => .inl ⟨_, .assertReg 6 .a _, fun _ => rfl⟩
  | .set_7_b => .inl ⟨_, .assertReg 7 .b _, fun _ => rfl⟩
  | .set_7_c => .inl ⟨_, .assertReg 7 .c _, fun _ => rfl⟩
  | .set_7_d => .inl ⟨_, .assertReg 7 .d _, fun _ => rfl⟩
  | .set_7_e => .inl ⟨_, .assertReg 7 .e _, fun _ => rfl⟩
  | .set_7_h => .inl ⟨_, .assertReg 7 .h _, fun _ => rfl⟩
  | .set_7_l => .inl ⟨_, .assertReg 7 .l _, fun _ => rfl⟩
  | .set_7_atHL => .inl ⟨_, .assertHL 7 _, fun _ => rfl⟩
  | .set_7_a => .inl ⟨_, .assertReg 7 .a _, fun _ => rfl⟩

end Sys2Proof.Machine
end

