-- ==== Sys2Proof/Laws/Bytes.lean ====
section
/-!
SUPPORT. The byte-order helpers: a word is its two bytes; a mask of low bits is a remainder.
-/

namespace Sys2Proof

@[simp] theorem hiByte_joinBytes (hi lo : Byte) : hiByte (joinBytes hi lo) = hi := by
  ext i hi
  simp only [hiByte, joinBytes, BitVec.getElem_extractLsb', BitVec.getLsbD_append]
  simp [show ¬ 8 + i < 8 by omega, BitVec.getLsbD_eq_getElem hi]

@[simp] theorem loByte_joinBytes (hi lo : Byte) : loByte (joinBytes hi lo) = lo := by
  ext i hi
  simp only [loByte, joinBytes, BitVec.getElem_extractLsb', BitVec.getLsbD_append]
  simp [hi]

@[simp] theorem joinBytes_hiByte_loByte (w : Word) : joinBytes (hiByte w) (loByte w) = w := by
  apply BitVec.eq_of_getLsbD_eq
  intro i hi
  simp only [hiByte, loByte, joinBytes, BitVec.getLsbD_append, BitVec.getLsbD_extractLsb']
  split
  · simp [*]
  · simp [show i - 8 < 8 by omega, show 8 + (i - 8) = i by omega]

/-! ## Masks as remainders -/

theorem toNat_and_0F (b : Byte) : (b &&& 0x0F).toNat = b.toNat % 16 := by
  rw [BitVec.toNat_and]
  exact Nat.and_two_pow_sub_one_eq_mod _ 4

theorem toNat_and_000F (w : Word) : (w &&& 0x000F).toNat = w.toNat % 16 := by
  rw [BitVec.toNat_and]
  exact Nat.and_two_pow_sub_one_eq_mod _ 4

theorem toNat_and_00FF (w : Word) : (w &&& 0x00FF).toNat = w.toNat % 256 := by
  rw [BitVec.toNat_and]
  exact Nat.and_two_pow_sub_one_eq_mod _ 8

theorem toNat_and_0FFF (w : Word) : (w &&& 0x0FFF).toNat = w.toNat % 4096 := by
  rw [BitVec.toNat_and]
  exact Nat.and_two_pow_sub_one_eq_mod _ 12

end Sys2Proof
end

