-- ==== Sys2Proof/Laws/Exec.lean ====
section
/-!
SUPPORT. What `exec` is on each family of instructions: the family's action, then what follows every action.  Each
lemma also gives the length and the `pcSelfManaged` flag of the family's descriptors.
-/

namespace Sys2Proof.Machine

/-- How an instruction runs: its action, then what follows every action; with its length and whether it sets PC
itself. -/
structure RunsAs (i : Instr) (action : State → State) (len : Word) (managed : Bool) (s : State) : Prop where
  run : exec i s = .next ((action s).retire i.key)
  len_eq : BitVec.ofNat 16 (encodedLength i.key) = len
  managed_eq : selfManaged i.key = managed

/-! ## Families -/

theorem runs_ldRegReg (dst r : Reg8) (s : State) :
    RunsAs (instrLdRegReg dst r) (loadReg dst r) 1 false s := by
  cases dst <;> cases r <;> exact ⟨rfl, rfl, rfl⟩

theorem runs_ldRegImm (r : Reg8) (n : Byte) (s : State) :
    RunsAs (instrLdRegImm r n) (loadImm r n) 2 false s := by
  cases r <;> exact ⟨rfl, rfl, rfl⟩

theorem runs_ldRegAtHL (r : Reg8) (s : State) :
    RunsAs (instrLdRegAtHL r) (loadFromHL r) 1 false s := by
  cases r <;> exact ⟨rfl, rfl, rfl⟩

theorem runs_ldAtHLReg (r : Reg8) (s : State) :
    RunsAs (instrLdAtHLReg r) (storeReg r) 1 false s := by
  cases r <;> exact ⟨rfl, rfl, rfl⟩

theorem runs_ldPairImm (rr : Reg16) (w : Word) (s : State) :
    RunsAs (instrLdPairImm rr w) (loadPair rr w) 3 false s := by
  cases rr <;> exact ⟨rfl, rfl, rfl⟩

theorem runs_push (p : Pair) (s : State) :
    RunsAs (instrPush p) (push p) 1 false s := by
  cases p <;> exact ⟨rfl, rfl, rfl⟩

theorem runs_pop (p : Pair) (s : State) :
    RunsAs (instrPop p) (pop p) 1 false s := by
  cases p <;> exact ⟨rfl, rfl, rfl⟩

theorem runs_alu (op : AluOp) (src : Source) (s : State) :
    RunsAs (instrAlu op src) (alu op src) (sourceLength src) false s := by
  obtain r | _ | n := src
  · cases op <;> cases r <;> exact ⟨rfl, rfl, rfl⟩
  · cases op <;> exact ⟨rfl, rfl, rfl⟩
  · cases op <;> exact ⟨rfl, rfl, rfl⟩

theorem runs_incReg (r : Reg8) (s : State) :
    RunsAs (instrIncReg r) (incReg r) 1 false s := by
  cases r <;> exact ⟨rfl, rfl, rfl⟩

theorem runs_decReg (r : Reg8) (s : State) :
    RunsAs (instrDecReg r) (decReg r) 1 false s := by
  cases r <;> exact ⟨rfl, rfl, rfl⟩

theorem runs_addHL (rr : Reg16) (s : State) :
    RunsAs (instrAddHL rr) (addHL rr) 1 false s := by
  cases rr <;> exact ⟨rfl, rfl, rfl⟩

theorem runs_incPair (rr : Reg16) (s : State) :
    RunsAs (instrIncPair rr) (incPair rr) 1 false s := by
  cases rr <;> exact ⟨rfl, rfl, rfl⟩

theorem runs_decPair (rr : Reg16) (s : State) :
    RunsAs (instrDecPair rr) (decPair rr) 1 false s := by
  cases rr <;> exact ⟨rfl, rfl, rfl⟩

theorem runs_shiftReg (op : ShiftOp) (r : Reg8) (s : State) :
    RunsAs (instrShiftReg op r) (shiftReg op r) 1 false s := by
  cases op <;> cases r <;> exact ⟨rfl, rfl, rfl⟩

theorem runs_shiftAtHL (op : ShiftOp) (s : State) :
    RunsAs (instrShiftAtHL op) (shiftHL op) 1 false s := by
  cases op <;> exact ⟨rfl, rfl, rfl⟩

theorem runs_bitReg (n : Fin 8) (r : Reg8) (s : State) :
    RunsAs (instrBitReg n r) (testReg n r) 1 false s := by
  fin_cases n <;> cases r <;> exact ⟨rfl, rfl, rfl⟩

theorem runs_bitAtHL (n : Fin 8) (s : State) :
    RunsAs (instrBitAtHL n) (testHL n) 1 false s := by
  fin_cases n <;> exact ⟨rfl, rfl, rfl⟩

theorem runs_resReg (n : Fin 8) (r : Reg8) (s : State) :
    RunsAs (instrResReg n r) (clearReg n r) 1 false s := by
  fin_cases n <;> cases r <;> exact ⟨rfl, rfl, rfl⟩

theorem runs_resAtHL (n : Fin 8) (s : State) :
    RunsAs (instrResAtHL n) (clearHL n) 1 false s := by
  fin_cases n <;> exact ⟨rfl, rfl, rfl⟩

theorem runs_setReg (n : Fin 8) (r : Reg8) (s : State) :
    RunsAs (instrSetReg n r) (assertReg n r) 1 false s := by
  fin_cases n <;> cases r <;> exact ⟨rfl, rfl, rfl⟩

theorem runs_setAtHL (n : Fin 8) (s : State) :
    RunsAs (instrSetAtHL n) (assertHL n) 1 false s := by
  fin_cases n <;> exact ⟨rfl, rfl, rfl⟩

theorem runs_jpCond (cc : Cond) (a : Word) (s : State) :
    RunsAs (instrJpCond cc a) (jumpCond cc a) 3 true s := by
  cases cc <;> exact ⟨rfl, rfl, rfl⟩

theorem runs_jrCond (cc : Cond) (e : Byte) (s : State) :
    RunsAs (instrJrCond cc e) (jumpRelativeCond cc e) 2 true s := by
  cases cc <;> exact ⟨rfl, rfl, rfl⟩

theorem runs_callCond (cc : Cond) (a : Word) (s : State) :
    RunsAs (instrCallCond cc a) (callCond cc a) 3 true s := by
  cases cc <;> exact ⟨rfl, rfl, rfl⟩

theorem runs_retCond (cc : Cond) (s : State) :
    RunsAs (instrRetCond cc) (returnCond cc) 1 true s := by
  cases cc <;> exact ⟨rfl, rfl, rfl⟩

theorem runs_rst (n : Fin 8) (s : State) :
    RunsAs (instrRst n) (restart (BitVec.ofNat 16 (8 * n))) 1 true s := by
  fin_cases n <;> exact ⟨rfl, rfl, rfl⟩

end Sys2Proof.Machine
end

