-- ==== Sys2Proof/Laws/Memory.lean ====
section
/-!
SUPPORT. The laws of the byte array: a write is read back, every other byte stays, and every operation keeps the
canonical form.
-/

namespace Sys2Proof.Machine

/-! ## Reading -/

theorem Memory.lookup_erase_same (m : Memory) (a : Nat) : Memory.lookup (Memory.erase m a) a = unlistedByte := by
  induction m with
  | nil => rfl
  | cons cell m ih =>
    obtain ⟨k, v⟩ := cell
    by_cases h : k = a
    · simpa [Memory.erase, h] using ih
    · simpa [Memory.erase, Memory.lookup, h] using ih

theorem Memory.lookup_erase_other (m : Memory) (a b : Nat) (hb : b ≠ a) :
    Memory.lookup (Memory.erase m a) b = Memory.lookup m b := by
  induction m with
  | nil => rfl
  | cons cell m ih =>
    obtain ⟨k, v⟩ := cell
    by_cases h : k = a
    · subst h
      simpa [Memory.erase, Memory.lookup, hb.symm] using ih
    · by_cases hk : k = b
      · subst hk
        simp [Memory.erase, Memory.lookup, h]
      · simpa [Memory.erase, Memory.lookup, h, hk] using ih

theorem Memory.lookup_place_other (m : Memory) (a b : Nat) (v : Byte) (hb : b ≠ a) :
    Memory.lookup (Memory.place m a v) b = Memory.lookup m b := by
  induction m with
  | nil => simp [Memory.place, Memory.lookup, hb.symm]
  | cons cell m ih =>
    obtain ⟨k, x⟩ := cell
    by_cases h : a < k
    · simp [Memory.place, h, Memory.lookup, hb.symm]
    · simp only [Memory.place, h, if_false, Memory.lookup, ih]

theorem Memory.lookup_place_same (m : Memory) (a : Nat) (v : Byte) (hm : ∀ cell ∈ m, cell.1 ≠ a) :
    Memory.lookup (Memory.place m a v) a = v := by
  induction m with
  | nil => simp [Memory.place, Memory.lookup]
  | cons cell m ih =>
    obtain ⟨k, x⟩ := cell
    have hk : k ≠ a := hm (k, x) (by simp)
    by_cases h : a < k
    · simp [Memory.place, h, Memory.lookup]
    · simpa [Memory.place, h, Memory.lookup, hk] using ih fun c hc => hm c (by simp [hc])

theorem Memory.mem_erase {m : Memory} {a : Nat} {cell : Host.Cell} :
    cell ∈ Memory.erase m a ↔ cell ∈ m ∧ cell.1 ≠ a := by
  simp [Memory.erase]

/-- A read after a write to the same address gives the byte written (R53, R62). -/
@[simp] theorem Memory.read_write_same (m : Memory) (a : Word) (v : Byte) : (m.write a v).read a = v := by
  unfold Memory.write Memory.read
  split
  · rename_i h
    rw [Memory.lookup_erase_same, h]
  · exact Memory.lookup_place_same _ _ _ fun c hc => (Memory.mem_erase.mp hc).2

/-- A write leaves every other byte as it was (R53). -/
theorem Memory.read_write_other (m : Memory) (a b : Word) (v : Byte) (h : b ≠ a) :
    (m.write a v).read b = m.read b := by
  have hn : b.toNat ≠ a.toNat := fun e => h (BitVec.eq_of_toNat_eq e)
  unfold Memory.write Memory.read
  split
  · exact Memory.lookup_erase_other _ _ _ hn
  · rw [Memory.lookup_place_other _ _ _ _ hn, Memory.lookup_erase_other _ _ _ hn]

/-- A read after a write, at any address. -/
theorem Memory.read_write (m : Memory) (a b : Word) (v : Byte) :
    (m.write a v).read b = if b = a then v else m.read b := by
  by_cases h : b = a
  · simp [h]
  · simp [h, Memory.read_write_other]

/-! ## The canonical form -/

theorem Memory.mem_place {m : Memory} {a : Nat} {v : Byte} {cell : Host.Cell} (h : cell ∈ Memory.place m a v) :
    cell = (a, v) ∨ cell ∈ m := by
  induction m with
  | nil => simpa [Memory.place] using h
  | cons c m ih =>
    obtain ⟨k, x⟩ := c
    by_cases hk : a < k
    · simpa [Memory.place, hk] using h
    · simp only [Memory.place, hk, if_false, List.mem_cons] at h ⊢
      rcases h with h | h
      · exact .inr (.inl h)
      · exact (ih h).imp id .inr

theorem Memory.place_rising {m : Memory} {a : Nat} {v : Byte} (hm : m.Pairwise fun x y => x.1 < y.1)
    (ha : ∀ cell ∈ m, cell.1 ≠ a) : (Memory.place m a v).Pairwise fun x y => x.1 < y.1 := by
  induction m with
  | nil => simp [Memory.place]
  | cons c m ih =>
    obtain ⟨k, x⟩ := c
    have hc := List.pairwise_cons.mp hm
    by_cases hk : a < k
    · simp only [Memory.place, hk, if_true]
      refine List.pairwise_cons.mpr ⟨fun y hy => ?_, hm⟩
      rcases List.mem_cons.mp hy with rfl | hy
      · exact hk
      · exact Nat.lt_trans hk (hc.1 y hy)
    · simp only [Memory.place, hk, if_false]
      refine List.pairwise_cons.mpr ⟨fun y hy => ?_, ih hc.2 fun d hd => ha d (by simp [hd])⟩
      have hka : k ≠ a := ha (k, x) (by simp)
      rcases Memory.mem_place hy with rfl | hy
      · show k < a
        omega
      · exact hc.1 y hy

/-- Erasing keeps the canonical form. -/
theorem Memory.wf_erase {m : Memory} (a : Nat) (h : m.wf) : (Memory.erase m a).wf :=
  ⟨h.1.filter _, fun x hx => h.2 x (Memory.mem_erase.mp hx).1⟩

/-- A write keeps the canonical form. -/
theorem Memory.wf_write {m : Memory} (a : Word) (v : Byte) (h : m.wf) : (m.write a v).wf := by
  have he := Memory.wf_erase a.toNat h
  unfold Memory.write
  split
  · exact he
  · rename_i hv
    refine ⟨Memory.place_rising he.1 fun c hc => (Memory.mem_erase.mp hc).2, fun x hx => ?_⟩
    rcases Memory.mem_place hx with rfl | hx
    · exact ⟨a.isLt, hv⟩
    · exact he.2 x hx

/-- A write of several bytes keeps the canonical form. -/
theorem Memory.wf_writeBytes {m : Memory} (a : Word) (bytes : List Byte) (h : m.wf) : (m.writeBytes a bytes).wf := by
  induction bytes generalizing m a with
  | nil => exact h
  | cons v bytes ih => exact ih (a + 1) (Memory.wf_write a v h)

/-- The memory with nothing listed has the canonical form. -/
theorem Memory.wf_nil : Memory.wf [] := ⟨List.Pairwise.nil, by simp⟩

end Sys2Proof.Machine
end

