-- ==== Sys2Proof/Laws/State.lean ====
section
/-!
SUPPORT. What each update of the state leaves unchanged, one lemma per field, and what the readers of the state give
after it, so that no proof unfolds an update.
-/

namespace Sys2Proof.Machine

/-! ## After the write of a register -/

@[simp] theorem State.setR_f (s : State) (r : Reg8) (v : Byte) : (s.setR r v).f = s.f := by cases r <;> rfl
@[simp] theorem State.setR_sp (s : State) (r : Reg8) (v : Byte) : (s.setR r v).sp = s.sp := by cases r <;> rfl
@[simp] theorem State.setR_pc (s : State) (r : Reg8) (v : Byte) : (s.setR r v).pc = s.pc := by cases r <;> rfl
@[simp] theorem State.setR_cycles (s : State) (r : Reg8) (v : Byte) :
    (s.setR r v).cycles = s.cycles := by cases r <;> rfl
@[simp] theorem State.setR_ime (s : State) (r : Reg8) (v : Byte) : (s.setR r v).ime = s.ime := by cases r <;> rfl
@[simp] theorem State.setR_halted (s : State) (r : Reg8) (v : Byte) :
    (s.setR r v).halted = s.halted := by cases r <;> rfl
@[simp] theorem State.setR_mem (s : State) (r : Reg8) (v : Byte) : (s.setR r v).mem = s.mem := by cases r <;> rfl
@[simp] theorem State.setR_runMode (s : State) (r : Reg8) (v : Byte) :
    (s.setR r v).runMode = s.runMode := by cases r <;> rfl
@[simp] theorem State.setR_stepSignal (s : State) (r : Reg8) (v : Byte) :
    (s.setR r v).stepSignal = s.stepSignal := by cases r <;> rfl
@[simp] theorem State.setR_continueSignal (s : State) (r : Reg8) (v : Byte) :
    (s.setR r v).continueSignal = s.continueSignal := by cases r <;> rfl
@[simp] theorem State.setR_bridge (s : State) (r : Reg8) (v : Byte) :
    (s.setR r v).bridge = s.bridge := by cases r <;> rfl
@[simp] theorem State.setR_config (s : State) (r : Reg8) (v : Byte) :
    (s.setR r v).config = s.config := by cases r <;> rfl

/-! ## After the write of F -/

@[simp] theorem State.writeF_a (s : State) (v : Byte) : (s.writeF v).a = s.a := rfl
@[simp] theorem State.writeF_b (s : State) (v : Byte) : (s.writeF v).b = s.b := rfl
@[simp] theorem State.writeF_c (s : State) (v : Byte) : (s.writeF v).c = s.c := rfl
@[simp] theorem State.writeF_d (s : State) (v : Byte) : (s.writeF v).d = s.d := rfl
@[simp] theorem State.writeF_e (s : State) (v : Byte) : (s.writeF v).e = s.e := rfl
@[simp] theorem State.writeF_h (s : State) (v : Byte) : (s.writeF v).h = s.h := rfl
@[simp] theorem State.writeF_l (s : State) (v : Byte) : (s.writeF v).l = s.l := rfl
@[simp] theorem State.writeF_sp (s : State) (v : Byte) : (s.writeF v).sp = s.sp := rfl
@[simp] theorem State.writeF_pc (s : State) (v : Byte) : (s.writeF v).pc = s.pc := rfl
@[simp] theorem State.writeF_cycles (s : State) (v : Byte) : (s.writeF v).cycles = s.cycles := rfl
@[simp] theorem State.writeF_ime (s : State) (v : Byte) : (s.writeF v).ime = s.ime := rfl
@[simp] theorem State.writeF_halted (s : State) (v : Byte) : (s.writeF v).halted = s.halted := rfl
@[simp] theorem State.writeF_mem (s : State) (v : Byte) : (s.writeF v).mem = s.mem := rfl
@[simp] theorem State.writeF_runMode (s : State) (v : Byte) : (s.writeF v).runMode = s.runMode := rfl
@[simp] theorem State.writeF_stepSignal (s : State) (v : Byte) : (s.writeF v).stepSignal = s.stepSignal := rfl
@[simp] theorem State.writeF_continueSignal (s : State) (v : Byte) :
    (s.writeF v).continueSignal = s.continueSignal := rfl
@[simp] theorem State.writeF_bridge (s : State) (v : Byte) : (s.writeF v).bridge = s.bridge := rfl
@[simp] theorem State.writeF_config (s : State) (v : Byte) : (s.writeF v).config = s.config := rfl

/-! ## After the write of the flags -/

@[simp] theorem State.setF_a (s : State) (z n h c : Bool) : (s.setF z n h c).a = s.a := rfl
@[simp] theorem State.setF_b (s : State) (z n h c : Bool) : (s.setF z n h c).b = s.b := rfl
@[simp] theorem State.setF_c (s : State) (z n h c : Bool) : (s.setF z n h c).c = s.c := rfl
@[simp] theorem State.setF_d (s : State) (z n h c : Bool) : (s.setF z n h c).d = s.d := rfl
@[simp] theorem State.setF_e (s : State) (z n h c : Bool) : (s.setF z n h c).e = s.e := rfl
@[simp] theorem State.setF_h (s : State) (z n h c : Bool) : (s.setF z n h c).h = s.h := rfl
@[simp] theorem State.setF_l (s : State) (z n h c : Bool) : (s.setF z n h c).l = s.l := rfl
@[simp] theorem State.setF_sp (s : State) (z n h c : Bool) : (s.setF z n h c).sp = s.sp := rfl
@[simp] theorem State.setF_pc (s : State) (z n h c : Bool) : (s.setF z n h c).pc = s.pc := rfl
@[simp] theorem State.setF_cycles (s : State) (z n h c : Bool) : (s.setF z n h c).cycles = s.cycles := rfl
@[simp] theorem State.setF_ime (s : State) (z n h c : Bool) : (s.setF z n h c).ime = s.ime := rfl
@[simp] theorem State.setF_halted (s : State) (z n h c : Bool) : (s.setF z n h c).halted = s.halted := rfl
@[simp] theorem State.setF_mem (s : State) (z n h c : Bool) : (s.setF z n h c).mem = s.mem := rfl
@[simp] theorem State.setF_runMode (s : State) (z n h c : Bool) : (s.setF z n h c).runMode = s.runMode := rfl
@[simp] theorem State.setF_stepSignal (s : State) (z n h c : Bool) : (s.setF z n h c).stepSignal = s.stepSignal := rfl
@[simp] theorem State.setF_continueSignal (s : State) (z n h c : Bool) :
    (s.setF z n h c).continueSignal = s.continueSignal := rfl
@[simp] theorem State.setF_bridge (s : State) (z n h c : Bool) : (s.setF z n h c).bridge = s.bridge := rfl
@[simp] theorem State.setF_config (s : State) (z n h c : Bool) : (s.setF z n h c).config = s.config := rfl

/-! ## After the write of an operation's flags -/

@[simp] theorem State.setFlags_a (s : State) (r : Flagged) : (s.setFlags r).a = s.a := rfl
@[simp] theorem State.setFlags_b (s : State) (r : Flagged) : (s.setFlags r).b = s.b := rfl
@[simp] theorem State.setFlags_c (s : State) (r : Flagged) : (s.setFlags r).c = s.c := rfl
@[simp] theorem State.setFlags_d (s : State) (r : Flagged) : (s.setFlags r).d = s.d := rfl
@[simp] theorem State.setFlags_e (s : State) (r : Flagged) : (s.setFlags r).e = s.e := rfl
@[simp] theorem State.setFlags_h (s : State) (r : Flagged) : (s.setFlags r).h = s.h := rfl
@[simp] theorem State.setFlags_l (s : State) (r : Flagged) : (s.setFlags r).l = s.l := rfl
@[simp] theorem State.setFlags_sp (s : State) (r : Flagged) : (s.setFlags r).sp = s.sp := rfl
@[simp] theorem State.setFlags_pc (s : State) (r : Flagged) : (s.setFlags r).pc = s.pc := rfl
@[simp] theorem State.setFlags_cycles (s : State) (r : Flagged) : (s.setFlags r).cycles = s.cycles := rfl
@[simp] theorem State.setFlags_ime (s : State) (r : Flagged) : (s.setFlags r).ime = s.ime := rfl
@[simp] theorem State.setFlags_halted (s : State) (r : Flagged) : (s.setFlags r).halted = s.halted := rfl
@[simp] theorem State.setFlags_mem (s : State) (r : Flagged) : (s.setFlags r).mem = s.mem := rfl
@[simp] theorem State.setFlags_runMode (s : State) (r : Flagged) : (s.setFlags r).runMode = s.runMode := rfl
@[simp] theorem State.setFlags_stepSignal (s : State) (r : Flagged) : (s.setFlags r).stepSignal = s.stepSignal := rfl
@[simp] theorem State.setFlags_continueSignal (s : State) (r : Flagged) :
    (s.setFlags r).continueSignal = s.continueSignal := rfl
@[simp] theorem State.setFlags_bridge (s : State) (r : Flagged) : (s.setFlags r).bridge = s.bridge := rfl
@[simp] theorem State.setFlags_config (s : State) (r : Flagged) : (s.setFlags r).config = s.config := rfl

/-! ## After the write of a pair -/

@[simp] theorem State.setPair_sp (s : State) (p : Pair) (w : Word) : (s.setPair p w).sp = s.sp := by cases p <;> rfl
@[simp] theorem State.setPair_pc (s : State) (p : Pair) (w : Word) : (s.setPair p w).pc = s.pc := by cases p <;> rfl
@[simp] theorem State.setPair_cycles (s : State) (p : Pair) (w : Word) :
    (s.setPair p w).cycles = s.cycles := by cases p <;> rfl
@[simp] theorem State.setPair_ime (s : State) (p : Pair) (w : Word) :
    (s.setPair p w).ime = s.ime := by cases p <;> rfl
@[simp] theorem State.setPair_halted (s : State) (p : Pair) (w : Word) :
    (s.setPair p w).halted = s.halted := by cases p <;> rfl
@[simp] theorem State.setPair_mem (s : State) (p : Pair) (w : Word) :
    (s.setPair p w).mem = s.mem := by cases p <;> rfl
@[simp] theorem State.setPair_runMode (s : State) (p : Pair) (w : Word) :
    (s.setPair p w).runMode = s.runMode := by cases p <;> rfl
@[simp] theorem State.setPair_stepSignal (s : State) (p : Pair) (w : Word) :
    (s.setPair p w).stepSignal = s.stepSignal := by cases p <;> rfl
@[simp] theorem State.setPair_continueSignal (s : State) (p : Pair) (w : Word) :
    (s.setPair p w).continueSignal = s.continueSignal := by cases p <;> rfl
@[simp] theorem State.setPair_bridge (s : State) (p : Pair) (w : Word) :
    (s.setPair p w).bridge = s.bridge := by cases p <;> rfl
@[simp] theorem State.setPair_config (s : State) (p : Pair) (w : Word) :
    (s.setPair p w).config = s.config := by cases p <;> rfl

/-! ## After the write of a 16-bit operand -/

@[simp] theorem State.setReg16_a (s : State) (r : Reg16) (w : Word) : (s.setReg16 r w).a = s.a := by cases r <;> rfl
@[simp] theorem State.setReg16_f (s : State) (r : Reg16) (w : Word) : (s.setReg16 r w).f = s.f := by cases r <;> rfl
@[simp] theorem State.setReg16_pc (s : State) (r : Reg16) (w : Word) :
    (s.setReg16 r w).pc = s.pc := by cases r <;> rfl
@[simp] theorem State.setReg16_cycles (s : State) (r : Reg16) (w : Word) :
    (s.setReg16 r w).cycles = s.cycles := by cases r <;> rfl
@[simp] theorem State.setReg16_ime (s : State) (r : Reg16) (w : Word) :
    (s.setReg16 r w).ime = s.ime := by cases r <;> rfl
@[simp] theorem State.setReg16_halted (s : State) (r : Reg16) (w : Word) :
    (s.setReg16 r w).halted = s.halted := by cases r <;> rfl
@[simp] theorem State.setReg16_mem (s : State) (r : Reg16) (w : Word) :
    (s.setReg16 r w).mem = s.mem := by cases r <;> rfl
@[simp] theorem State.setReg16_runMode (s : State) (r : Reg16) (w : Word) :
    (s.setReg16 r w).runMode = s.runMode := by cases r <;> rfl
@[simp] theorem State.setReg16_stepSignal (s : State) (r : Reg16) (w : Word) :
    (s.setReg16 r w).stepSignal = s.stepSignal := by cases r <;> rfl
@[simp] theorem State.setReg16_continueSignal (s : State) (r : Reg16) (w : Word) :
    (s.setReg16 r w).continueSignal = s.continueSignal := by cases r <;> rfl
@[simp] theorem State.setReg16_bridge (s : State) (r : Reg16) (w : Word) :
    (s.setReg16 r w).bridge = s.bridge := by cases r <;> rfl
@[simp] theorem State.setReg16_config (s : State) (r : Reg16) (w : Word) :
    (s.setReg16 r w).config = s.config := by cases r <;> rfl

/-! ## After the store of a byte -/

@[simp] theorem State.writeByte_a (s : State) (x : Word) (v : Byte) : (s.writeByte x v).a = s.a := rfl
@[simp] theorem State.writeByte_f (s : State) (x : Word) (v : Byte) : (s.writeByte x v).f = s.f := rfl
@[simp] theorem State.writeByte_b (s : State) (x : Word) (v : Byte) : (s.writeByte x v).b = s.b := rfl
@[simp] theorem State.writeByte_c (s : State) (x : Word) (v : Byte) : (s.writeByte x v).c = s.c := rfl
@[simp] theorem State.writeByte_d (s : State) (x : Word) (v : Byte) : (s.writeByte x v).d = s.d := rfl
@[simp] theorem State.writeByte_e (s : State) (x : Word) (v : Byte) : (s.writeByte x v).e = s.e := rfl
@[simp] theorem State.writeByte_h (s : State) (x : Word) (v : Byte) : (s.writeByte x v).h = s.h := rfl
@[simp] theorem State.writeByte_l (s : State) (x : Word) (v : Byte) : (s.writeByte x v).l = s.l := rfl
@[simp] theorem State.writeByte_sp (s : State) (x : Word) (v : Byte) : (s.writeByte x v).sp = s.sp := rfl
@[simp] theorem State.writeByte_pc (s : State) (x : Word) (v : Byte) : (s.writeByte x v).pc = s.pc := rfl
@[simp] theorem State.writeByte_cycles (s : State) (x : Word) (v : Byte) : (s.writeByte x v).cycles = s.cycles := rfl
@[simp] theorem State.writeByte_ime (s : State) (x : Word) (v : Byte) : (s.writeByte x v).ime = s.ime := rfl
@[simp] theorem State.writeByte_halted (s : State) (x : Word) (v : Byte) : (s.writeByte x v).halted = s.halted := rfl
@[simp] theorem State.writeByte_runMode (s : State) (x : Word) (v : Byte) :
    (s.writeByte x v).runMode = s.runMode := rfl
@[simp] theorem State.writeByte_stepSignal (s : State) (x : Word) (v : Byte) :
    (s.writeByte x v).stepSignal = s.stepSignal := rfl
@[simp] theorem State.writeByte_continueSignal (s : State) (x : Word) (v : Byte) :
    (s.writeByte x v).continueSignal = s.continueSignal := rfl
@[simp] theorem State.writeByte_bridge (s : State) (x : Word) (v : Byte) : (s.writeByte x v).bridge = s.bridge := rfl
@[simp] theorem State.writeByte_config (s : State) (x : Word) (v : Byte) : (s.writeByte x v).config = s.config := rfl

/-! ## After the store of a word -/

@[simp] theorem State.writeWord_a (s : State) (x w : Word) : (s.writeWord x w).a = s.a := rfl
@[simp] theorem State.writeWord_f (s : State) (x w : Word) : (s.writeWord x w).f = s.f := rfl
@[simp] theorem State.writeWord_b (s : State) (x w : Word) : (s.writeWord x w).b = s.b := rfl
@[simp] theorem State.writeWord_c (s : State) (x w : Word) : (s.writeWord x w).c = s.c := rfl
@[simp] theorem State.writeWord_d (s : State) (x w : Word) : (s.writeWord x w).d = s.d := rfl
@[simp] theorem State.writeWord_e (s : State) (x w : Word) : (s.writeWord x w).e = s.e := rfl
@[simp] theorem State.writeWord_h (s : State) (x w : Word) : (s.writeWord x w).h = s.h := rfl
@[simp] theorem State.writeWord_l (s : State) (x w : Word) : (s.writeWord x w).l = s.l := rfl
@[simp] theorem State.writeWord_sp (s : State) (x w : Word) : (s.writeWord x w).sp = s.sp := rfl
@[simp] theorem State.writeWord_pc (s : State) (x w : Word) : (s.writeWord x w).pc = s.pc := rfl
@[simp] theorem State.writeWord_cycles (s : State) (x w : Word) : (s.writeWord x w).cycles = s.cycles := rfl
@[simp] theorem State.writeWord_ime (s : State) (x w : Word) : (s.writeWord x w).ime = s.ime := rfl
@[simp] theorem State.writeWord_halted (s : State) (x w : Word) : (s.writeWord x w).halted = s.halted := rfl
@[simp] theorem State.writeWord_runMode (s : State) (x w : Word) : (s.writeWord x w).runMode = s.runMode := rfl
@[simp] theorem State.writeWord_stepSignal (s : State) (x w : Word) :
    (s.writeWord x w).stepSignal = s.stepSignal := rfl
@[simp] theorem State.writeWord_continueSignal (s : State) (x w : Word) :
    (s.writeWord x w).continueSignal = s.continueSignal := rfl
@[simp] theorem State.writeWord_bridge (s : State) (x w : Word) : (s.writeWord x w).bridge = s.bridge := rfl
@[simp] theorem State.writeWord_config (s : State) (x w : Word) : (s.writeWord x w).config = s.config := rfl

/-! ## After a push -/

@[simp] theorem State.push16_a (s : State) (w : Word) : (s.push16 w).a = s.a := rfl
@[simp] theorem State.push16_f (s : State) (w : Word) : (s.push16 w).f = s.f := rfl
@[simp] theorem State.push16_b (s : State) (w : Word) : (s.push16 w).b = s.b := rfl
@[simp] theorem State.push16_c (s : State) (w : Word) : (s.push16 w).c = s.c := rfl
@[simp] theorem State.push16_d (s : State) (w : Word) : (s.push16 w).d = s.d := rfl
@[simp] theorem State.push16_e (s : State) (w : Word) : (s.push16 w).e = s.e := rfl
@[simp] theorem State.push16_h (s : State) (w : Word) : (s.push16 w).h = s.h := rfl
@[simp] theorem State.push16_l (s : State) (w : Word) : (s.push16 w).l = s.l := rfl
@[simp] theorem State.push16_pc (s : State) (w : Word) : (s.push16 w).pc = s.pc := rfl
@[simp] theorem State.push16_cycles (s : State) (w : Word) : (s.push16 w).cycles = s.cycles := rfl
@[simp] theorem State.push16_ime (s : State) (w : Word) : (s.push16 w).ime = s.ime := rfl
@[simp] theorem State.push16_halted (s : State) (w : Word) : (s.push16 w).halted = s.halted := rfl
@[simp] theorem State.push16_runMode (s : State) (w : Word) : (s.push16 w).runMode = s.runMode := rfl
@[simp] theorem State.push16_stepSignal (s : State) (w : Word) : (s.push16 w).stepSignal = s.stepSignal := rfl
@[simp] theorem State.push16_continueSignal (s : State) (w : Word) :
    (s.push16 w).continueSignal = s.continueSignal := rfl
@[simp] theorem State.push16_bridge (s : State) (w : Word) : (s.push16 w).bridge = s.bridge := rfl
@[simp] theorem State.push16_config (s : State) (w : Word) : (s.push16 w).config = s.config := rfl

/-! ## After a pop of SP -/

@[simp] theorem State.drop16_a (s : State) : (s.drop16).a = s.a := rfl
@[simp] theorem State.drop16_f (s : State) : (s.drop16).f = s.f := rfl
@[simp] theorem State.drop16_b (s : State) : (s.drop16).b = s.b := rfl
@[simp] theorem State.drop16_c (s : State) : (s.drop16).c = s.c := rfl
@[simp] theorem State.drop16_d (s : State) : (s.drop16).d = s.d := rfl
@[simp] theorem State.drop16_e (s : State) : (s.drop16).e = s.e := rfl
@[simp] theorem State.drop16_h (s : State) : (s.drop16).h = s.h := rfl
@[simp] theorem State.drop16_l (s : State) : (s.drop16).l = s.l := rfl
@[simp] theorem State.drop16_pc (s : State) : (s.drop16).pc = s.pc := rfl
@[simp] theorem State.drop16_cycles (s : State) : (s.drop16).cycles = s.cycles := rfl
@[simp] theorem State.drop16_ime (s : State) : (s.drop16).ime = s.ime := rfl
@[simp] theorem State.drop16_halted (s : State) : (s.drop16).halted = s.halted := rfl
@[simp] theorem State.drop16_mem (s : State) : (s.drop16).mem = s.mem := rfl
@[simp] theorem State.drop16_runMode (s : State) : (s.drop16).runMode = s.runMode := rfl
@[simp] theorem State.drop16_stepSignal (s : State) : (s.drop16).stepSignal = s.stepSignal := rfl
@[simp] theorem State.drop16_continueSignal (s : State) : (s.drop16).continueSignal = s.continueSignal := rfl
@[simp] theorem State.drop16_bridge (s : State) : (s.drop16).bridge = s.bridge := rfl
@[simp] theorem State.drop16_config (s : State) : (s.drop16).config = s.config := rfl

/-! ## After the PC advance -/

@[simp] theorem State.advance_a (s : State) (k : OpKey) :
    (s.advance k).a = s.a := by unfold State.advance; split <;> rfl
@[simp] theorem State.advance_f (s : State) (k : OpKey) :
    (s.advance k).f = s.f := by unfold State.advance; split <;> rfl
@[simp] theorem State.advance_b (s : State) (k : OpKey) :
    (s.advance k).b = s.b := by unfold State.advance; split <;> rfl
@[simp] theorem State.advance_c (s : State) (k : OpKey) :
    (s.advance k).c = s.c := by unfold State.advance; split <;> rfl
@[simp] theorem State.advance_d (s : State) (k : OpKey) :
    (s.advance k).d = s.d := by unfold State.advance; split <;> rfl
@[simp] theorem State.advance_e (s : State) (k : OpKey) :
    (s.advance k).e = s.e := by unfold State.advance; split <;> rfl
@[simp] theorem State.advance_h (s : State) (k : OpKey) :
    (s.advance k).h = s.h := by unfold State.advance; split <;> rfl
@[simp] theorem State.advance_l (s : State) (k : OpKey) :
    (s.advance k).l = s.l := by unfold State.advance; split <;> rfl
@[simp] theorem State.advance_sp (s : State) (k : OpKey) :
    (s.advance k).sp = s.sp := by unfold State.advance; split <;> rfl
@[simp] theorem State.advance_cycles (s : State) (k : OpKey) :
    (s.advance k).cycles = s.cycles := by unfold State.advance; split <;> rfl
@[simp] theorem State.advance_ime (s : State) (k : OpKey) :
    (s.advance k).ime = s.ime := by unfold State.advance; split <;> rfl
@[simp] theorem State.advance_halted (s : State) (k : OpKey) :
    (s.advance k).halted = s.halted := by unfold State.advance; split <;> rfl
@[simp] theorem State.advance_mem (s : State) (k : OpKey) :
    (s.advance k).mem = s.mem := by unfold State.advance; split <;> rfl
@[simp] theorem State.advance_runMode (s : State) (k : OpKey) :
    (s.advance k).runMode = s.runMode := by unfold State.advance; split <;> rfl
@[simp] theorem State.advance_stepSignal (s : State) (k : OpKey) :
    (s.advance k).stepSignal = s.stepSignal := by unfold State.advance; split <;> rfl
@[simp] theorem State.advance_continueSignal (s : State) (k : OpKey) :
    (s.advance k).continueSignal = s.continueSignal := by unfold State.advance; split <;> rfl
@[simp] theorem State.advance_bridge (s : State) (k : OpKey) :
    (s.advance k).bridge = s.bridge := by unfold State.advance; split <;> rfl
@[simp] theorem State.advance_config (s : State) (k : OpKey) :
    (s.advance k).config = s.config := by unfold State.advance; split <;> rfl

/-! ## After the cycle count -/

@[simp] theorem State.charge_a (s : State) (k : OpKey) : (s.charge k).a = s.a := rfl
@[simp] theorem State.charge_f (s : State) (k : OpKey) : (s.charge k).f = s.f := rfl
@[simp] theorem State.charge_b (s : State) (k : OpKey) : (s.charge k).b = s.b := rfl
@[simp] theorem State.charge_c (s : State) (k : OpKey) : (s.charge k).c = s.c := rfl
@[simp] theorem State.charge_d (s : State) (k : OpKey) : (s.charge k).d = s.d := rfl
@[simp] theorem State.charge_e (s : State) (k : OpKey) : (s.charge k).e = s.e := rfl
@[simp] theorem State.charge_h (s : State) (k : OpKey) : (s.charge k).h = s.h := rfl
@[simp] theorem State.charge_l (s : State) (k : OpKey) : (s.charge k).l = s.l := rfl
@[simp] theorem State.charge_sp (s : State) (k : OpKey) : (s.charge k).sp = s.sp := rfl
@[simp] theorem State.charge_pc (s : State) (k : OpKey) : (s.charge k).pc = s.pc := rfl
@[simp] theorem State.charge_ime (s : State) (k : OpKey) : (s.charge k).ime = s.ime := rfl
@[simp] theorem State.charge_halted (s : State) (k : OpKey) : (s.charge k).halted = s.halted := rfl
@[simp] theorem State.charge_mem (s : State) (k : OpKey) : (s.charge k).mem = s.mem := rfl
@[simp] theorem State.charge_runMode (s : State) (k : OpKey) : (s.charge k).runMode = s.runMode := rfl
@[simp] theorem State.charge_stepSignal (s : State) (k : OpKey) : (s.charge k).stepSignal = s.stepSignal := rfl
@[simp] theorem State.charge_continueSignal (s : State) (k : OpKey) :
    (s.charge k).continueSignal = s.continueSignal := rfl
@[simp] theorem State.charge_bridge (s : State) (k : OpKey) : (s.charge k).bridge = s.bridge := rfl
@[simp] theorem State.charge_config (s : State) (k : OpKey) : (s.charge k).config = s.config := rfl

/-! ## After what follows an action -/

@[simp] theorem State.retire_a (s : State) (k : OpKey) : (s.retire k).a = s.a := by simp [State.retire]
@[simp] theorem State.retire_f (s : State) (k : OpKey) : (s.retire k).f = s.f := by simp [State.retire]
@[simp] theorem State.retire_b (s : State) (k : OpKey) : (s.retire k).b = s.b := by simp [State.retire]
@[simp] theorem State.retire_c (s : State) (k : OpKey) : (s.retire k).c = s.c := by simp [State.retire]
@[simp] theorem State.retire_d (s : State) (k : OpKey) : (s.retire k).d = s.d := by simp [State.retire]
@[simp] theorem State.retire_e (s : State) (k : OpKey) : (s.retire k).e = s.e := by simp [State.retire]
@[simp] theorem State.retire_h (s : State) (k : OpKey) : (s.retire k).h = s.h := by simp [State.retire]
@[simp] theorem State.retire_l (s : State) (k : OpKey) : (s.retire k).l = s.l := by simp [State.retire]
@[simp] theorem State.retire_sp (s : State) (k : OpKey) : (s.retire k).sp = s.sp := by simp [State.retire]
@[simp] theorem State.retire_ime (s : State) (k : OpKey) : (s.retire k).ime = s.ime := by simp [State.retire]
@[simp] theorem State.retire_halted (s : State) (k : OpKey) : (s.retire k).halted = s.halted := by simp [State.retire]
@[simp] theorem State.retire_mem (s : State) (k : OpKey) : (s.retire k).mem = s.mem := by simp [State.retire]
@[simp] theorem State.retire_runMode (s : State) (k : OpKey) :
    (s.retire k).runMode = s.runMode := by simp [State.retire]
@[simp] theorem State.retire_stepSignal (s : State) (k : OpKey) :
    (s.retire k).stepSignal = s.stepSignal := by simp [State.retire]
@[simp] theorem State.retire_continueSignal (s : State) (k : OpKey) :
    (s.retire k).continueSignal = s.continueSignal := by simp [State.retire]
@[simp] theorem State.retire_bridge (s : State) (k : OpKey) : (s.retire k).bridge = s.bridge := by simp [State.retire]
@[simp] theorem State.retire_config (s : State) (k : OpKey) : (s.retire k).config = s.config := by simp [State.retire]

/-! ## The written fields -/

@[simp] theorem State.writeF_f (s : State) (v : Byte) : (s.writeF v).f = v &&& 0xF0 := rfl
@[simp] theorem State.setF_f (s : State) (z n h c : Bool) : (s.setF z n h c).f = packFlags z n h c &&& 0xF0 := rfl
@[simp] theorem State.setFlags_f (s : State) (r : Flagged) :
    (s.setFlags r).f = packFlags r.z r.n r.h r.c &&& 0xF0 := rfl
@[simp] theorem State.writeByte_mem (s : State) (x : Word) (v : Byte) : (s.writeByte x v).mem = s.mem.write x v := rfl
@[simp] theorem State.drop16_sp (s : State) : s.drop16.sp = s.sp + 2 := rfl
@[simp] theorem State.push16_sp (s : State) (w : Word) : (s.push16 w).sp = s.sp - 2 := by
  simp only [State.push16, State.writeByte]
  exact BitVec.sub_sub s.sp 1 1 ▸ rfl
@[simp] theorem State.charge_cycles (s : State) (k : OpKey) : (s.charge k).cycles = s.cycles + cost s.config k := rfl
@[simp] theorem State.retire_cycles (s : State) (k : OpKey) : (s.retire k).cycles = s.cycles + cost s.config k := by
  simp [State.retire]

/-- PC after a self-managed descriptor (R115). -/
theorem State.retire_pc_self (s : State) (k : OpKey) (h : selfManaged k = true) : (s.retire k).pc = s.pc := by
  simp [State.retire, State.advance, h]

/-- PC after a descriptor that is not self-managed (R115). -/
theorem State.retire_pc (s : State) (k : OpKey) (h : selfManaged k = false) :
    (s.retire k).pc = s.pc + BitVec.ofNat 16 (encodedLength k) := by
  simp [State.retire, State.advance, h]

/-! ## The register file -/

@[simp] theorem State.getR_setR_same (s : State) (r : Reg8) (v : Byte) : (s.setR r v).getR r = v := by
  cases r <;> rfl

theorem State.getR_setR_other (s : State) (r q : Reg8) (v : Byte) (h : q ≠ r) : (s.setR r v).getR q = s.getR q := by
  cases r <;> cases q <;> first | rfl | exact absurd rfl h

/-! ## `getR` after an update -/

@[simp] theorem State.getR_writeF (s : State) (v : Byte) (q : Reg8) :
    (s.writeF v).getR q = s.getR q := by cases q <;> simp [State.getR]
@[simp] theorem State.getR_setF (s : State) (z n h c : Bool) (q : Reg8) :
    (s.setF z n h c).getR q = s.getR q := by cases q <;> simp [State.getR]
@[simp] theorem State.getR_setFlags (s : State) (r : Flagged) (q : Reg8) :
    (s.setFlags r).getR q = s.getR q := by cases q <;> simp [State.getR]
@[simp] theorem State.getR_writeByte (s : State) (x : Word) (v : Byte) (q : Reg8) :
    (s.writeByte x v).getR q = s.getR q := by cases q <;> simp [State.getR]
@[simp] theorem State.getR_writeWord (s : State) (x w : Word) (q : Reg8) :
    (s.writeWord x w).getR q = s.getR q := by cases q <;> simp [State.getR]
@[simp] theorem State.getR_push16 (s : State) (w : Word) (q : Reg8) :
    (s.push16 w).getR q = s.getR q := by cases q <;> simp [State.getR]
@[simp] theorem State.getR_drop16 (s : State) (q : Reg8) :
    (s.drop16).getR q = s.getR q := by cases q <;> simp [State.getR]
@[simp] theorem State.getR_advance (s : State) (k : OpKey) (q : Reg8) :
    (s.advance k).getR q = s.getR q := by cases q <;> simp [State.getR]
@[simp] theorem State.getR_charge (s : State) (k : OpKey) (q : Reg8) :
    (s.charge k).getR q = s.getR q := by cases q <;> simp [State.getR]
@[simp] theorem State.getR_retire (s : State) (k : OpKey) (q : Reg8) :
    (s.retire k).getR q = s.getR q := by cases q <;> simp [State.getR]

/-! ## `readF` after an update -/

@[simp] theorem State.readF_setR (s : State) (r : Reg8) (v : Byte) :
    (s.setR r v).readF = s.readF := by simp [State.readF]
@[simp] theorem State.readF_setReg16 (s : State) (r : Reg16) (w : Word) :
    (s.setReg16 r w).readF = s.readF := by simp [State.readF]
@[simp] theorem State.readF_writeByte (s : State) (x : Word) (v : Byte) :
    (s.writeByte x v).readF = s.readF := by simp [State.readF]
@[simp] theorem State.readF_writeWord (s : State) (x w : Word) :
    (s.writeWord x w).readF = s.readF := by simp [State.readF]
@[simp] theorem State.readF_push16 (s : State) (w : Word) :
    (s.push16 w).readF = s.readF := by simp [State.readF]
@[simp] theorem State.readF_drop16 (s : State) :
    (s.drop16).readF = s.readF := by simp [State.readF]
@[simp] theorem State.readF_advance (s : State) (k : OpKey) :
    (s.advance k).readF = s.readF := by simp [State.readF]
@[simp] theorem State.readF_charge (s : State) (k : OpKey) :
    (s.charge k).readF = s.readF := by simp [State.readF]
@[simp] theorem State.readF_retire (s : State) (k : OpKey) :
    (s.retire k).readF = s.readF := by simp [State.readF]

/-! ## `readByte` after an update -/

@[simp] theorem State.readByte_setR (s : State) (r : Reg8) (v : Byte) (x : Word) :
    (s.setR r v).readByte x = s.readByte x := by simp [State.readByte]
@[simp] theorem State.readByte_writeF (s : State) (v : Byte) (x : Word) :
    (s.writeF v).readByte x = s.readByte x := by simp [State.readByte]
@[simp] theorem State.readByte_setF (s : State) (z n h c : Bool) (x : Word) :
    (s.setF z n h c).readByte x = s.readByte x := by simp [State.readByte]
@[simp] theorem State.readByte_setFlags (s : State) (r : Flagged) (x : Word) :
    (s.setFlags r).readByte x = s.readByte x := by simp [State.readByte]
@[simp] theorem State.readByte_setPair (s : State) (p : Pair) (w : Word) (x : Word) :
    (s.setPair p w).readByte x = s.readByte x := by simp [State.readByte]
@[simp] theorem State.readByte_setReg16 (s : State) (r : Reg16) (w : Word) (x : Word) :
    (s.setReg16 r w).readByte x = s.readByte x := by simp [State.readByte]
@[simp] theorem State.readByte_drop16 (s : State) (x : Word) :
    (s.drop16).readByte x = s.readByte x := by simp [State.readByte]
@[simp] theorem State.readByte_advance (s : State) (k : OpKey) (x : Word) :
    (s.advance k).readByte x = s.readByte x := by simp [State.readByte]
@[simp] theorem State.readByte_charge (s : State) (k : OpKey) (x : Word) :
    (s.charge k).readByte x = s.readByte x := by simp [State.readByte]
@[simp] theorem State.readByte_retire (s : State) (k : OpKey) (x : Word) :
    (s.retire k).readByte x = s.readByte x := by simp [State.readByte]

/-! ## The flags after a write -/

/-- The byte of four flags has an empty low nibble (R123). -/
theorem packFlags_low (z n h c : Bool) : packFlags z n h c &&& 0x0F = 0 := by
  cases z <;> cases n <;> cases h <;> cases c <;> decide

/-- A write of the flags is read back (R24, R123). -/
theorem State.setF_flagsAre (s : State) (z n h c : Bool) : FlagsAre (s.setF z n h c) z n h c := by
  simp only [FlagsAre, State.flagZ, State.flagN, State.flagH, State.flagC, State.readF, State.setF_f]
  cases z <;> cases n <;> cases h <;> cases c <;> decide

/-- Flags depend on F alone. -/
theorem FlagsAre.of_f {s t : State} {z n h c : Bool} (e : t.f = s.f) (w : FlagsAre s z n h c) : FlagsAre t z n h c := by
  simpa [FlagsAre, State.flagZ, State.flagN, State.flagH, State.flagC, State.readF, e] using w

end Sys2Proof.Machine
end

