-- ==== Sys2Proof/Laws/Frames.lean ====
section
/-!
SUPPORT. What each shared operation can do, said once: the frame of every update, and the completion of a descriptor.
-/

namespace Sys2Proof.Machine

/-! ## Reading after a store -/

/-- A byte read after a store. -/
theorem State.readByte_writeByte (s : State) (a x : Word) (v : Byte) :
    (s.writeByte a v).readByte x = if x = a then v else s.readByte x :=
  Memory.read_write s.mem a x v

@[simp] theorem State.readByte_writeByte_same (s : State) (a : Word) (v : Byte) :
    (s.writeByte a v).readByte a = v := by
  simp [State.readByte_writeByte]

/-- A byte read after a push. -/
theorem State.readByte_push16 (s : State) (w x : Word) :
    (s.push16 w).readByte x =
      if x = s.sp - 2 then loByte w else if x = s.sp - 1 then hiByte w else s.readByte x := by
  have e : s.sp - 1 - 1 = s.sp - 2 := by
    rw [BitVec.sub_sub]
    rfl
  simp only [State.push16, State.writeByte, State.readByte, Memory.read_write, e]

/-! ## Frames of the updates -/

theorem SameControl.rfl {s : State} : SameControl s s := ⟨by rfl, by rfl, by rfl, by rfl, by rfl, by rfl, by rfl⟩

theorem Keeps.rfl {s : State} : Keeps [] [] s s := ⟨fun _ _ => by rfl, fun _ _ => by rfl, SameControl.rfl⟩

theorem Keeps.trans {regs : List Reg8} {stored : List Word} {s t u : State} (h : Keeps regs stored s t)
    (k : Keeps regs stored t u) : Keeps regs stored s u := by
  obtain ⟨h1, h2, a1, a2, a3, a4, a5, a6, a7⟩ := h
  obtain ⟨k1, k2, b1, b2, b3, b4, b5, b6, b7⟩ := k
  exact ⟨fun r hr => (k1 r hr).trans (h1 r hr), fun a ha => (k2 a ha).trans (h2 a ha), b1.trans a1, b2.trans a2,
    b3.trans a3, b4.trans a4, b5.trans a5, b6.trans a6, b7.trans a7⟩

/-- A frame that leaves out less is a frame that leaves out more. -/
theorem Keeps.mono {r1 r2 : List Reg8} {m1 m2 : List Word} {s t : State} (h : Keeps r1 m1 s t)
    (hr : ∀ r ∈ r1, r ∈ r2) (hm : ∀ a ∈ m1, a ∈ m2) : Keeps r2 m2 s t :=
  ⟨fun r n => h.1 r fun m => n (hr r m), fun a n => h.2.1 a fun m => n (hm a m), h.2.2⟩

/-- A register write changes that register alone. -/
theorem keeps_setR (s : State) (r : Reg8) (v : Byte) : Keeps [r] [] s (s.setR r v) := by
  refine ⟨fun q hq => ?_, fun a _ => by simp, ?_⟩
  · exact State.getR_setR_other s r q v (by simpa using hq)
  · simp [SameControl]

/-- A store changes that byte alone. -/
theorem keeps_writeByte (s : State) (a : Word) (v : Byte) : Keeps [] [a] s (s.writeByte a v) := by
  refine ⟨fun q _ => by simp, fun x hx => ?_, by simp [SameControl]⟩
  have hx : x ≠ a := by simpa using hx
  simp [State.readByte_writeByte, hx]

/-- A push changes the two bytes below SP. -/
theorem keeps_push16 (s : State) (w : Word) : Keeps [] [s.sp - 1, s.sp - 2] s (s.push16 w) := by
  refine ⟨fun q _ => by simp, fun x hx => ?_, by simp [SameControl]⟩
  simp only [List.mem_cons, List.not_mem_nil, or_false, not_or] at hx
  rw [State.readByte_push16, if_neg hx.2, if_neg hx.1]

/-- A flag write changes F alone. -/
theorem keeps_setFlags (s : State) (r : Flagged) : Keeps [] [] s (s.setFlags r) :=
  ⟨fun _ _ => by simp, fun _ _ => by simp, by simp [SameControl]⟩

/-- A flag write changes F alone. -/
theorem keeps_setF (s : State) (z n h c : Bool) : Keeps [] [] s (s.setF z n h c) :=
  ⟨fun _ _ => by simp, fun _ _ => by simp, by simp [SameControl]⟩

/-- What follows an action changes PC and the counter alone. -/
theorem keeps_retire (s : State) (k : OpKey) : Keeps [] [] s (s.retire k) :=
  ⟨fun _ _ => by simp, fun _ _ => by simp, by simp [SameControl]⟩

/-- A write of HL changes H and L alone. -/
theorem keeps_setHL (s : State) (w : Word) : Keeps [.h, .l] [] s (s.setPair .hl w) := by
  refine ⟨fun q hq => ?_, fun _ _ => by simp, by simp [SameControl]⟩
  cases q <;> first | rfl | simp at hq

/-! ## The invariant -/

/-- Every store keeps the memory's canonical form. -/
theorem wf_writeByte {s : State} (a : Word) (v : Byte) (h : s.mem.wf) : (s.writeByte a v).mem.wf :=
  Memory.wf_write a v h

theorem wf_writeWord {s : State} (a w : Word) (h : s.mem.wf) : (s.writeWord a w).mem.wf :=
  Memory.wf_write _ _ (Memory.wf_write _ _ h)

theorem wf_push16 {s : State} (w : Word) (h : s.mem.wf) : (s.push16 w).mem.wf :=
  Memory.wf_write _ _ (Memory.wf_write _ _ h)

/-! ## Completion -/

/-- A descriptor that is not self-managed, after an action that leaves PC, the counter and the parameters alone. -/
theorem completed_retire {i : Instr} {len : Word} {s t : State} (hm : selfManaged i.key = false)
    (hl : BitVec.ofNat 16 (encodedLength i.key) = len) (hp : t.pc = s.pc) (hc : t.cycles = s.cycles)
    (hg : t.config = s.config) : Completed i len s (t.retire i.key) := by
  refine ⟨?_, ?_⟩
  · rw [State.retire_pc t _ hm, hp, hl]
  · rw [State.retire_cycles, hc, hg]

/-- A self-managed descriptor, after an action that leaves the counter and the parameters alone. -/
theorem wentTo_retire {i : Instr} {target : Word} {s t : State} (hm : selfManaged i.key = true) (hp : t.pc = target)
    (hc : t.cycles = s.cycles) (hg : t.config = s.config) : WentTo i target s (t.retire i.key) := by
  refine ⟨?_, ?_⟩
  · rw [State.retire_pc_self t _ hm, hp]
  · rw [State.retire_cycles, hc, hg]

/-- A family whose descriptors are not self-managed completes. -/
theorem RunsAs.completed {i : Instr} {action : State → State} {len : Word} {s : State} (r : RunsAs i action len false s)
    (hp : (action s).pc = s.pc) (hc : (action s).cycles = s.cycles) (hg : (action s).config = s.config) :
    Completed i len s ((action s).retire i.key) :=
  completed_retire r.managed_eq r.len_eq hp hc hg

/-- A family whose descriptors are self-managed goes where its action puts PC. -/
theorem RunsAs.wentTo {i : Instr} {action : State → State} {len target : Word} {s : State}
    (r : RunsAs i action len true s) (hp : (action s).pc = target) (hc : (action s).cycles = s.cycles)
    (hg : (action s).config = s.config) : WentTo i target s ((action s).retire i.key) :=
  wentTo_retire r.managed_eq hp hc hg

/-- A frame survives what follows an action. -/
theorem Keeps.retire {regs : List Reg8} {stored : List Word} {s t : State} (h : Keeps regs stored s t) (k : OpKey) :
    Keeps regs stored s (t.retire k) :=
  h.trans ((keeps_retire t k).mono (by simp) (by simp))

/-- Flags survive what follows an action. -/
theorem FlagsAre.retire {t : State} {z n h c : Bool} (w : FlagsAre t z n h c) (k : OpKey) :
    FlagsAre (t.retire k) z n h c :=
  w.of_f (by simp)

end Sys2Proof.Machine
end

