-- ==== Sys2Proof/Laws/Startup.lean ====
section
/-!
SUPPORT. What a debug script's load can do (spec/20_memory.md R61), and which stalls are stuck
(spec/70_reset_and_hazards.md R460).
-/

namespace Sys2Proof.Machine

/-! ## The load of a debug script -/

/-- A load keeps the canonical form of memory. -/
theorem runLoad_wf (actions : List LoadAction) (m : Memory) (br : Bridge) (h : m.wf) :
    (runLoad actions m br).1.wf := by
  induction actions generalizing m br with
  | nil => exact h
  | cons act rest ih =>
    cases act with
    | subscribe => exact ih m _ h
    | writeByte a v => exact ih _ br (Memory.wf_write a v h)
    | dumpMemory => exact ih m _ h

/-- A byte read after a load: the last byte the load wrote at that address, or what the byte was before. -/
theorem runLoad_read (actions : List LoadAction) (bs : List (List ScriptAction)) (m : Memory) (br : Bridge)
    (x : Word) :
    (runLoad actions m br).1.read x =
      ((DebugScript.loadWrites (some (.loaded actions bs))).reverse.lookup x).getD (m.read x) := by
  induction actions generalizing m br with
  | nil => rfl
  | cons act rest ih =>
    cases act with
    | subscribe => exact ih m _
    | dumpMemory => exact ih m _
    | writeByte a v =>
      refine (ih _ br).trans ?_
      simp only [loadAction, Memory.read_write, DebugScript.loadWrites, List.filterMap_cons, List.reverse_cons,
        List.lookup_append]
      by_cases hx : x = a
      · cases List.lookup x _ <;> simp [List.lookup, hx]
      · cases List.lookup x _ <;> simp [List.lookup, hx, beq_eq_false_iff_ne.mpr hx]

/-- A load registers its subscriptions in order, after those that stand, and leaves the tape alone. -/
theorem runLoad_subscriptions (actions : List LoadAction) (bs : List (List ScriptAction)) (m : Memory) (br : Bridge) :
    (runLoad actions m br).2.subscriptions =
        br.subscriptions ++ DebugScript.loadSubscriptions (.loaded actions bs) ∧
      (runLoad actions m br).2.behaviours = br.behaviours := by
  induction actions generalizing m br with
  | nil => exact ⟨(List.append_nil _).symm, rfl⟩
  | cons act rest ih =>
    cases act with
    | subscribe e =>
      refine ⟨(ih m _).1.trans ?_, (ih m _).2⟩
      simp [loadAction, DebugScript.loadSubscriptions]
    | writeByte a v => exact ih _ br
    | dumpMemory => exact ih m _

/-! ## Stalls that last -/

/-- What the next step does is the same with any bridge or none. -/
theorem State.report_bridge (s : State) (br : Option Bridge) : { s with bridge := br }.report = s.report := rfl

/-- A stuck state stalls and its step, with no host write, gives a stuck state; and only such a state is stuck. -/
theorem State.stuck_iff (s : State) :
    s.stuck ↔ (∃ key, s.report = .stalled key) ∧ ∀ t, step { s with bridge := none } = .next t → t.stuck :=
  ⟨fun h => ⟨(h 1).1, fun t ht n => (h (n + 1)).2 t ht⟩, fun h n => by
    cases n with
    | zero => trivial
    | succ n => exact ⟨h.1, fun t ht => h.2 t ht n⟩⟩

/-- A stall that repeats with no bridge is stuck, whatever bridge is attached (R401). -/
theorem State.stuck_of_repeats {s : State} {key : Byte} (hr : s.report = .stalled key)
    (hs : step { s with bridge := none } = .next { s with bridge := none }) : s.stuck := by
  intro n
  induction n generalizing s with
  | zero => trivial
  | succ n ih =>
    refine ⟨⟨key, hr⟩, fun t ht => ?_⟩
    rw [hs] at ht
    cases ht
    exact ih hr hs

end Sys2Proof.Machine
end

