-- ==== Sys2Proof/Laws/Tables.lean ====
section
/-!
SUPPORT. The decoder on a list of bytes, by the kind of its first entry, and the tables against the encoder's own
numbering: the two were written from different tables of spec/30_encoding.md.
-/

namespace Sys2Proof

/-! ## The decoder, entry by entry -/

/-- A present entry without operand bytes. -/
theorem decode_op {c : Config} {b : Byte} {rest : List Byte} {i : Instr} (hb : b ≠ 0xCB) (he : baseEntry b = .op i)
    (h : c.has (.base b) = true) : decode c (b :: rest) = .ok (i, rest) := by
  simp only [decode, if_neg hb, h, if_true, he, Entry.operandCount, decodeKey, Entry.build]
  simp

/-- A present entry with one operand byte. -/
theorem decode_imm8 {c : Config} {b n : Byte} {rest : List Byte} {f : Byte → Instr} (hb : b ≠ 0xCB)
    (he : baseEntry b = .imm8 f) (h : c.has (.base b) = true) : decode c (b :: n :: rest) = .ok (f n, rest) := by
  simp only [decode, if_neg hb, h, if_true, he, Entry.operandCount, decodeKey, Entry.build]
  simp

/-- A present entry with two operand bytes. -/
theorem decode_imm16 {c : Config} {b lo hi : Byte} {rest : List Byte} {f : Word → Instr} (hb : b ≠ 0xCB)
    (he : baseEntry b = .imm16 f) (h : c.has (.base b) = true) :
    decode c (b :: lo :: hi :: rest) = .ok (f (joinBytes hi lo), rest) := by
  simp only [decode, if_neg hb, h, if_true, he, Entry.operandCount, decodeKey, Entry.build]
  simp

/-- A present extended entry. -/
theorem decode_ext {c : Config} {k : Byte} {rest : List Byte} (h : c.has (.ext k) = true) :
    decode c (0xCB :: k :: rest) = .ok (extInstr k, rest) := by
  simp only [decode, if_true, decodeKey, h]

/-- A base byte without a descriptor, the prefix apart. -/
theorem decode_absent {c : Config} {b : Byte} {rest : List Byte} (hb : b ≠ 0xCB) (h : c.has (.base b) = false) :
    decode c (b :: rest) = .ok (.illegal b, rest) := by
  simp only [decode, if_neg hb, h, decodeKey]
  simp

/-! ## The tables against the encoder -/

/-- The extended table holds at each key the instruction the encoder puts there. -/
theorem extInstr_parts : ∀ k : Byte, (extInstr k).parts = (.ext k, []) := by decide

/-- An entry of the base table stands where the encoder puts its instructions. -/
def Entry.Agrees (b : Byte) : Entry → Prop
  | .absent => True
  | .op i => i.parts = (.base b, [])
  | .imm8 f => ∀ n, (f n).parts = (.base b, [n])
  | .imm16 f => ∀ w, (f w).parts = (.base b, [loByte w, hiByte w])

theorem baseRow0_agrees (n : Fin 16) : ((baseRow0.getD n .absent).Agrees (BitVec.ofNat 8 (0x00 + n))) := by
  fin_cases n <;> first | rfl | exact fun _ => rfl
theorem baseRow1_agrees (n : Fin 16) : ((baseRow1.getD n .absent).Agrees (BitVec.ofNat 8 (0x10 + n))) := by
  fin_cases n <;> first | rfl | exact fun _ => rfl
theorem baseRow2_agrees (n : Fin 16) : ((baseRow2.getD n .absent).Agrees (BitVec.ofNat 8 (0x20 + n))) := by
  fin_cases n <;> first | rfl | exact fun _ => rfl
theorem baseRow3_agrees (n : Fin 16) : ((baseRow3.getD n .absent).Agrees (BitVec.ofNat 8 (0x30 + n))) := by
  fin_cases n <;> first | rfl | exact fun _ => rfl
theorem baseRow4_agrees (n : Fin 16) : ((baseRow4.getD n .absent).Agrees (BitVec.ofNat 8 (0x40 + n))) := by
  fin_cases n <;> rfl
theorem baseRow5_agrees (n : Fin 16) : ((baseRow5.getD n .absent).Agrees (BitVec.ofNat 8 (0x50 + n))) := by
  fin_cases n <;> rfl
theorem baseRow6_agrees (n : Fin 16) : ((baseRow6.getD n .absent).Agrees (BitVec.ofNat 8 (0x60 + n))) := by
  fin_cases n <;> rfl
theorem baseRow7_agrees (n : Fin 16) : ((baseRow7.getD n .absent).Agrees (BitVec.ofNat 8 (0x70 + n))) := by
  fin_cases n <;> rfl
theorem baseRow8_agrees (n : Fin 16) : ((baseRow8.getD n .absent).Agrees (BitVec.ofNat 8 (0x80 + n))) := by
  fin_cases n <;> rfl
theorem baseRow9_agrees (n : Fin 16) : ((baseRow9.getD n .absent).Agrees (BitVec.ofNat 8 (0x90 + n))) := by
  fin_cases n <;> rfl
theorem baseRowA_agrees (n : Fin 16) : ((baseRowA.getD n .absent).Agrees (BitVec.ofNat 8 (0xA0 + n))) := by
  fin_cases n <;> rfl
theorem baseRowB_agrees (n : Fin 16) : ((baseRowB.getD n .absent).Agrees (BitVec.ofNat 8 (0xB0 + n))) := by
  fin_cases n <;> rfl
theorem baseRowC_agrees (n : Fin 16) : ((baseRowC.getD n .absent).Agrees (BitVec.ofNat 8 (0xC0 + n))) := by
  fin_cases n <;> first | rfl | trivial | exact fun _ => rfl
theorem baseRowD_agrees (n : Fin 16) : ((baseRowD.getD n .absent).Agrees (BitVec.ofNat 8 (0xD0 + n))) := by
  fin_cases n <;> first | rfl | trivial | exact fun _ => rfl
theorem baseRowE_agrees (n : Fin 16) : ((baseRowE.getD n .absent).Agrees (BitVec.ofNat 8 (0xE0 + n))) := by
  fin_cases n <;> first | rfl | trivial | exact fun _ => rfl
theorem baseRowF_agrees (n : Fin 16) : ((baseRowF.getD n .absent).Agrees (BitVec.ofNat 8 (0xF0 + n))) := by
  fin_cases n <;> first | rfl | trivial | exact fun _ => rfl

/-- The base table agrees with the encoder at every byte. -/
theorem baseEntry_agrees (b : Byte) : (baseEntry b).Agrees b := by
  have hb : b = BitVec.ofNat 8 (16 * (b.toNat / 16) + b.toNat % 16) := by
    apply BitVec.eq_of_toNat_eq
    simp only [BitVec.toNat_ofNat]
    omega
  have hr : b.toNat / 16 < 16 := by omega
  have hc : b.toNat % 16 < 16 := Nat.mod_lt _ (by decide)
  unfold baseEntry
  conv => arg 1; rw [hb]
  generalize b.toNat / 16 = r at *
  generalize b.toNat % 16 = c at *
  interval_cases r
  · exact baseRow0_agrees ⟨c, hc⟩
  · exact baseRow1_agrees ⟨c, hc⟩
  · exact baseRow2_agrees ⟨c, hc⟩
  · exact baseRow3_agrees ⟨c, hc⟩
  · exact baseRow4_agrees ⟨c, hc⟩
  · exact baseRow5_agrees ⟨c, hc⟩
  · exact baseRow6_agrees ⟨c, hc⟩
  · exact baseRow7_agrees ⟨c, hc⟩
  · exact baseRow8_agrees ⟨c, hc⟩
  · exact baseRow9_agrees ⟨c, hc⟩
  · exact baseRowA_agrees ⟨c, hc⟩
  · exact baseRowB_agrees ⟨c, hc⟩
  · exact baseRowC_agrees ⟨c, hc⟩
  · exact baseRowD_agrees ⟨c, hc⟩
  · exact baseRowE_agrees ⟨c, hc⟩
  · exact baseRowF_agrees ⟨c, hc⟩

end Sys2Proof
end

