-- ==== Sys2Proof/Tests/Slice0.lean ====
section
/-!
SUPPORT. Tests.  Expected results are those of spec/95_test_vectors.md (V1 to V186, E1 to E10), or are worked out by
hand from the rule a test names.  Then the witnesses: for each statement with hypotheses, states and operands that
meet them.
-/

namespace Sys2Proof.Tests

open Sys2Proof Sys2Proof.Machine

/-! ## Helpers -/

/-- A state in which every register differs from every other one. -/
def junk : State :=
  { State.reset with
    a := 0x11, f := 0xA0, b := 0x22, c := 0x33, d := 0x44, e := 0x55, h := 0x66, l := 0x77, sp := 0x8888 }

/-- The state with bytes stored at an address and PC there. -/
def start (pc : Word) (bytes : List Byte) (s : State) : State := { s with pc := pc, mem := s.mem.writeBytes pc bytes }

/-- The state with a bridge attached: its subscriptions and its callbacks' bodies. -/
def attached (subs : List EventName) (bodies : List (List ScriptAction)) (s : State) : State :=
  { s with bridge := some { subscriptions := subs, behaviours := bodies, record := [] } }

/-- An outcome is a next state that passes a check. -/
def nextIs (r : Result) (check : State → Bool) : Bool :=
  match r with
  | .next t => check t
  | .fault _ => false
  | .refused _ => false

/-- One step gives exactly the state a function of the start state says: every component it does not change is as it
was. -/
def runs (s : State) (f : State → State) : Bool := nextIs (step s) fun t => decide (t = f s)

/-- The decoder gives an instruction and leaves some bytes, in the default configuration. -/
def decodes (bytes : List Byte) (i : Instr) (rest : List Byte) : Bool :=
  match decode {} bytes with
  | .ok r => decide (r = (i, rest))
  | .error _ => false

/-- A configuration without NOP (0x00), SWAP A (CB 37) and RLC B (CB 00). -/
def sparse : Config := { absentBase := [0x00], absentExt := [0x37, 0x00] }

/-! ## Well-formedness: each check, with a term it refuses -/

theorem test_wellFormed_accepts :
    (Instr.ld_b_c).wellFormed {} = true ∧ (Instr.illegal 0xD3).wellFormed {} = true ∧
    (Instr.illegal 0x00).wellFormed sparse = true ∧ (Instr.prefixCb 0x37).wellFormed sparse = true := by decide

theorem test_wellFormed_refuses_illegal_byte_with_descriptor : (Instr.illegal 0x00).wellFormed {} = false := by decide

theorem test_wellFormed_refuses_illegal_prefix_byte : (Instr.illegal 0xCB).wellFormed {} = false := by decide

theorem test_wellFormed_refuses_prefix_with_descriptor : (Instr.prefixCb 0x37).wellFormed {} = false := by decide

theorem test_wellFormed_refuses_absent_base_descriptor : (Instr.nop).wellFormed sparse = false := by decide

theorem test_wellFormed_refuses_absent_ext_descriptor : (Instr.swap_a).wellFormed sparse = false := by decide

/-! ## Decoding: bytes written out bit by bit from spec/30_encoding.md R93 to R96 -/

/-- `01 110 101`: LD (HL),L; `01 111 110`: LD A,(HL); `00 010 110`: LD D,d8. -/
theorem test_decode_load8 :
    decodes [0b01110101] .ld_atHL_l [] ∧ decodes [0b01111110] .ld_a_atHL [] ∧
    decodes [0b00010110, 0x42, 0x99] (.ld_d_d8 0x42) [0x99] := by decide

/-- `00 10 0001`: LD HL,d16, low byte first; `00 001 000`: LD (a16),SP; `11 11 0001`: POP AF. -/
theorem test_decode_load16 :
    decodes [0b00100001, 0x34, 0x12] (.ld_hl_d16 0x1234) [] ∧
    decodes [0b00001000, 0xFE, 0xFF] (.ld_atA16_sp 0xFFFE) [] ∧
    decodes [0b11110001] .pop_af [] := by decide

/-- `10 011 010`: SBC A,D; `11 111 110`: CP d8; `00 101 101`: DEC L. -/
theorem test_decode_alu8 :
    decodes [0b10011010] .sbc_a_d [] ∧ decodes [0b11111110, 0x80] (.cp_d8 0x80) [] ∧
    decodes [0b00101101] .dec_l [] := by decide

/-- `00 01 1001`: ADD HL,DE; `00 11 0011`: INC SP; `11 101 000`: ADD SP,e8. -/
theorem test_decode_alu16 :
    decodes [0b00011001] .add_hl_de [] ∧ decodes [0b00110011] .inc_sp [] ∧
    decodes [0b11101000, 0xFF] (.add_sp_e8 0xFF) [] := by decide

/-- `00 000 111`: RLCA; CB `00 101 011`: SRA E; CB `01 011 110`: BIT 3,(HL); CB `10 000 111`: RES 0,A; CB `11 111 000`:
SET 7,B. -/
theorem test_decode_rotate_and_bit :
    decodes [0b00000111] .rlca [] ∧ decodes [0xCB, 0b00101011] .sra_e [] ∧
    decodes [0xCB, 0b01011110] .bit_3_atHL [] ∧
    decodes [0xCB, 0b10000111] .res_0_a [] ∧ decodes [0xCB, 0b11111000] .set_7_b [] := by decide

/-- `001 11 000`: JR C,e8; `110 01 010`: JP Z,a16; `110 00 100`: CALL NZ,a16; `110 11 000`: RET C; `11 101 111`:
RST 28h. -/
theorem test_decode_control :
    decodes [0b00111000, 0x80] (.jr_c_e8 0x80) [] ∧ decodes [0b11001010, 0x00, 0x40] (.jp_z_a16 0x4000) [] ∧
    decodes [0b11000100, 0x01, 0x00] (.call_nz_a16 1) [] ∧ decodes [0b11011000] .ret_c [] ∧
    decodes [0b11101111] .rst_28h [] := by decide

/-- `01 110 110` is HALT and not a load (R93); STOP takes its second byte, whatever it is (R312). -/
theorem test_decode_misc :
    decodes [0b01110110] .halt [] ∧ decodes [0b00010000, 0x5A] (.stop 0x5A) [] ∧ decodes [0xF3] .di [] ∧
    decodes [0xFB] .ei [] := by decide

/-- The eleven illegal bytes of R95 stand alone. -/
theorem test_decode_illegal : ∀ b ∈ [(0xD3 : Byte), 0xDB, 0xDD, 0xE3, 0xE4, 0xEB, 0xEC, 0xED, 0xF4, 0xFC, 0xFD],
    decodes [b, 0x00] (.illegal b) [0x00] = true := by decide

/-- R95: with the prefix, these eleven bytes are the only ones without a row in the base map. -/
theorem test_base_map_rows : ∀ b : Byte, (baseEntry b).present = false ↔
    b ∈ [(0xCB : Byte), 0xD3, 0xDB, 0xDD, 0xE3, 0xE4, 0xEB, 0xEC, 0xED, 0xF4, 0xFC, 0xFD] := by decide

/-- The decoder refuses a list that ends inside an instruction, and no other. -/
theorem test_decode_refuses :
    decode {} [] = .error .noBytes ∧ decode {} [0xCB] = .error .noExtendedByte ∧
    decode {} [0x3E] = .error .noOperandBytes ∧ decode {} [0xC3, 0x00] = .error .noOperandBytes := by decide

/-- The table's numbering: a base row's first byte is bits 7 to 0, an extended row is the number `0xCB00 | op2` (R101);
the bits above the row's are 0. -/
theorem test_decodeTableWord :
    decodeTableWord 8 0x41 = some .ld_b_c ∧ decodeTableWord 16 0xCB7C = some .bit_7_h ∧
    decodeTableWord 16 0x9A3E = some (.ld_a_d8 0x9A) ∧ decodeTableWord 24 0x01503C3 = some (.jp_a16 0x1503) ∧
    decodeTableWord 8 0xD3 = some (.illegal 0xD3) := by decide

/-- A row's instruction stored at the next fetch is what the next step runs, even where `IMPLEMENTED` left it out. -/
theorem test_withFetchWord :
    nextIs (step (State.reset.withFetchWord 16 0x9A3E)) (fun t => t.a = 0x9A ∧ t.pc = 2) ∧
    nextIs (step ({ State.reset with a := 0xF1, config := sparse }.withFetchWord 16 0xCB37))
      (fun t => t.a = 0x1F ∧ t.pc = 2) := by decide

/-! ## Vectors of spec/95_test_vectors.md, one step each -/

/-- V1 (R150). -/
theorem test_V1 :
    runs (start 0x0100 [0x78]
      { junk with b := 0x12 })
      (fun s =>
        { s with a := 0x12, pc := 0x0101, cycles := 4 }) := by decide

/-- V3 (R151). -/
theorem test_V3 :
    runs (start 0x0100 [0x0E, 0xFF]
      { junk with c := 0x00 })
      (fun s =>
        { s with c := 0xFF, pc := 0x0102, cycles := 8 }) := by decide

/-- V4 (R152). -/
theorem test_V4 :
    runs (start 0x0100 [0x66]
      { junk with h := 0xC0, l := 0x00, mem := [(0xC000, 0x9A)] })
      (fun s =>
        { s with h := 0x9A, pc := 0x0101, cycles := 8 }) := by decide

/-- V5 (R153). -/
theorem test_V5 :
    runs (start 0x0100 [0x74]
      { junk with h := 0xC1, l := 0x23 })
      (fun s =>
        { s with pc := 0x0101, cycles := 8, mem := s.mem.write 0xC123 0xC1 }) := by decide

/-- V6 (R154). -/
theorem test_V6 :
    runs (start 0x0100 [0x36, 0x7F]
      { junk with h := 0xC0, l := 0x00 })
      (fun s =>
        { s with pc := 0x0102, cycles := 12, mem := s.mem.write 0xC000 0x7F }) := by decide

/-- V7 (R155). -/
theorem test_V7 :
    runs (start 0x0100 [0x0A]
      { junk with b := 0x80, c := 0x00, mem := [(0x8000, 0x3C)] })
      (fun s =>
        { s with a := 0x3C, pc := 0x0101, cycles := 8 }) := by decide

/-- V8 (R158). -/
theorem test_V8 :
    runs (start 0x0100 [0x12]
      { junk with a := 0x99, d := 0xC0, e := 0x10 })
      (fun s =>
        { s with pc := 0x0101, cycles := 8, mem := s.mem.write 0xC010 0x99 }) := by decide

/-- V9 (R159). -/
theorem test_V9 :
    runs (start 0x0100 [0xFA, 0xFF, 0xFF]
      { junk with a := 0x00, mem := [(0xFFFF, 0x1F)] })
      (fun s =>
        { s with a := 0x1F, pc := 0x0103, cycles := 16 }) := by decide

/-- V10 (R160). -/
theorem test_V10 :
    runs (start 0x0100 [0xEA, 0x10, 0x99]
      { junk with a := 0x19 })
      (fun s =>
        { s with pc := 0x0103, cycles := 16, mem := s.mem.write 0x9910 0x19 }) := by decide

/-- V11 (R161). -/
theorem test_V11 :
    runs (start 0x0100 [0xE0, 0xFF]
      { junk with a := 0x77 })
      (fun s =>
        { s with pc := 0x0102, cycles := 12, mem := s.mem.write 0xFFFF 0x77 }) := by decide

/-- V12 (R162). -/
theorem test_V12 :
    runs (start 0x0100 [0xF0, 0x00]
      { junk with a := 0x00, mem := [(0xFF00, 0xCF)] })
      (fun s =>
        { s with a := 0xCF, pc := 0x0102, cycles := 12 }) := by decide

/-- V13 (R163). -/
theorem test_V13 :
    runs (start 0x0100 [0xE2]
      { junk with a := 0x80, c := 0x11 })
      (fun s =>
        { s with pc := 0x0101, cycles := 8, mem := s.mem.write 0xFF11 0x80 }) := by decide

/-- V14 (R164). -/
theorem test_V14 :
    runs (start 0x0100 [0xF2]
      { junk with a := 0x00, c := 0x80, mem := [(0xFF80, 0x42)] })
      (fun s =>
        { s with a := 0x42, pc := 0x0101, cycles := 8 }) := by decide

/-- V15 (R165). -/
theorem test_V15 :
    runs (start 0x0100 [0x22]
      { junk with a := 0x01, h := 0xFF, l := 0xFF })
      (fun s =>
        { s with h := 0x00, l := 0x00, pc := 0x0101, cycles := 8, mem := s.mem.write 0xFFFF 0x01 }) := by decide

/-- V16 (R166). -/
theorem test_V16 :
    runs (start 0x0200 [0x32]
      { junk with a := 0x00, h := 0x00, l := 0x00 })
      (fun s =>
        { s with h := 0xFF, l := 0xFF, pc := 0x0201, cycles := 8, mem := s.mem.write 0x0000 0x00 }) := by decide

/-- V17 (R167). -/
theorem test_V17 :
    runs (start 0x0100 [0x2A]
      { junk with a := 0x00, h := 0xC0, l := 0x00, mem := [(0xC000, 0x56)] })
      (fun s =>
        { s with a := 0x56, l := 0x01, pc := 0x0101, cycles := 8 }) := by decide

/-- V18 (R168). -/
theorem test_V18 :
    runs (start 0x0100 [0x3A]
      { junk with a := 0x00, h := 0xC0, l := 0x01, mem := [(0xC001, 0x65)] })
      (fun s =>
        { s with a := 0x65, l := 0x00, pc := 0x0101, cycles := 8 }) := by decide

/-- V19 (R154). -/
theorem test_V19 :
    runs (start 0x0100 [0x36, 0x99]
      { junk with h := 0x01, l := 0x01 })
      (fun s =>
        { s with pc := 0x0102, cycles := 12, mem := s.mem.write 0x0101 0x99 }) := by decide

/-- V20 (R180). -/
theorem test_V20 :
    runs (start 0x0100 [0x31, 0xFE, 0xFF]
      { junk with sp := 0x0000 })
      (fun s =>
        { s with sp := 0xFFFE, pc := 0x0103, cycles := 12 }) := by decide

/-- V21 (R180). -/
theorem test_V21 :
    runs (start 0x0100 [0x21, 0xFF, 0x9F]
      junk)
      (fun s =>
        { s with h := 0x9F, l := 0xFF, pc := 0x0103, cycles := 12 }) := by decide

/-- V22 (R181). -/
theorem test_V22 :
    runs (start 0x0100 [0x08, 0xFF, 0xFF]
      { junk with sp := 0xFFF8 })
      (fun s =>
        { s with pc := 0x0103, cycles := 20, mem := (s.mem.write 0x0000 0xFF).write 0xFFFF 0xF8 }) := by decide

/-- V23 (R182). -/
theorem test_V23 :
    runs (start 0x0100 [0xF9]
      { junk with h := 0xDF, l := 0xF0, sp := 0x0000 })
      (fun s =>
        { s with sp := 0xDFF0, pc := 0x0101, cycles := 8 }) := by decide

/-- V24 (R183). -/
theorem test_V24 :
    runs (start 0x0100 [0xF8, 0xFF]
      { junk with sp := 0x0005, f := 0x80 })
      (fun s =>
        { s with h := 0x00, l := 0x04, f := 0x30, pc := 0x0102, cycles := 12 }) := by decide

/-- V25 (R183). -/
theorem test_V25 :
    runs (start 0x0100 [0xF8, 0x01]
      { junk with sp := 0x000F, f := 0x00 })
      (fun s =>
        { s with h := 0x00, l := 0x10, f := 0x20, pc := 0x0102, cycles := 12 }) := by decide

/-- V26 (R184). -/
theorem test_V26 :
    runs (start 0x0100 [0xC5]
      { junk with sp := 0xFFFE, b := 0x12, c := 0x34 })
      (fun s =>
        { s with sp := 0xFFFC, pc := 0x0101, cycles := 16, mem := (s.mem.write 0xFFFC 0x34).write 0xFFFD 0x12 }) := by
  decide

/-- V27 (R184). -/
theorem test_V27 :
    runs (start 0x0100 [0xF5]
      { junk with sp := 0xFFFE, a := 0x12, f := 0xB0 })
      (fun s =>
        { s with sp := 0xFFFC, pc := 0x0101, cycles := 16, mem := (s.mem.write 0xFFFC 0xB0).write 0xFFFD 0x12 }) := by
  decide

/-- V28 (R184). -/
theorem test_V28 :
    runs (start 0x0100 [0xD5]
      { junk with sp := 0x0001, d := 0xAB, e := 0xCD })
      (fun s =>
        { s with sp := 0xFFFF, pc := 0x0101, cycles := 16, mem := (s.mem.write 0x0000 0xAB).write 0xFFFF 0xCD }) := by
  decide

/-- V29 (R185). -/
theorem test_V29 :
    runs (start 0x0100 [0xC1]
      { junk with sp := 0xFFFC, b := 0x00, c := 0x00, mem := [(0xFFFC, 0x34), (0xFFFD, 0x12)] })
      (fun s =>
        { s with b := 0x12, c := 0x34, sp := 0xFFFE, pc := 0x0101, cycles := 12 }) := by decide

/-- V30 (R185). -/
theorem test_V30 :
    runs (start 0x0100 [0xE1]
      { junk with sp := 0xFFFF, h := 0x00, l := 0x00, mem := [(0x0000, 0x22), (0xFFFF, 0x11)] })
      (fun s =>
        { s with h := 0x22, l := 0x11, sp := 0x0001, pc := 0x0101, cycles := 12 }) := by decide

/-- V31 (R186). -/
theorem test_V31 :
    runs (start 0x0100 [0xF1]
      { junk with sp := 0xFFFC, a := 0x00, f := 0x00, mem := [(0xFFFC, 0xFF), (0xFFFD, 0x12)] })
      (fun s =>
        { s with a := 0x12, f := 0xF0, sp := 0xFFFE, pc := 0x0101, cycles := 12 }) := by decide

/-- V40 (R200). -/
theorem test_V40 :
    runs (start 0x0100 [0x80]
      { junk with a := 0x3A, b := 0xC6, f := 0x00 })
      (fun s =>
        { s with a := 0x00, f := 0xB0, pc := 0x0101, cycles := 4 }) := by decide

/-- V41 (R200). -/
theorem test_V41 :
    runs (start 0x0100 [0x80]
      { junk with a := 0x0F, b := 0x01, f := 0x00 })
      (fun s =>
        { s with a := 0x10, f := 0x20, pc := 0x0101, cycles := 4 }) := by decide

/-- V42 (R203). -/
theorem test_V42 :
    runs (start 0x0100 [0x88]
      { junk with a := 0x0F, b := 0x00, f := 0x10 })
      (fun s =>
        { s with a := 0x10, f := 0x20, pc := 0x0101, cycles := 4 }) := by decide

/-- V43 (R205). -/
theorem test_V43 :
    runs (start 0x0100 [0xCE, 0x00]
      { junk with a := 0xFF, f := 0x10 })
      (fun s =>
        { s with a := 0x00, f := 0xB0, pc := 0x0102, cycles := 8 }) := by decide

/-- V44 (R201). -/
theorem test_V44 :
    runs (start 0x0100 [0x86]
      { junk with a := 0x3C, h := 0xC0, l := 0x00, f := 0x00, mem := [(0xC000, 0x12)] })
      (fun s =>
        { s with a := 0x4E, pc := 0x0101, cycles := 8 }) := by decide

/-- V45 (R206). -/
theorem test_V45 :
    runs (start 0x0100 [0x93]
      { junk with a := 0x3E, e := 0x3E, f := 0x00 })
      (fun s =>
        { s with a := 0x00, f := 0xC0, pc := 0x0101, cycles := 4 }) := by decide

/-- V46 (R206). -/
theorem test_V46 :
    runs (start 0x0100 [0x90]
      { junk with a := 0x00, b := 0x01, f := 0x00 })
      (fun s =>
        { s with a := 0xFF, f := 0x70, pc := 0x0101, cycles := 4 }) := by decide

/-- V47 (R208). -/
theorem test_V47 :
    runs (start 0x0100 [0xD6, 0x01]
      { junk with a := 0x10, f := 0x00 })
      (fun s =>
        { s with a := 0x0F, f := 0x60, pc := 0x0102, cycles := 8 }) := by decide

/-- V48 (R209). -/
theorem test_V48 :
    runs (start 0x0100 [0x9F]
      { junk with a := 0x00, f := 0x10 })
      (fun s =>
        { s with a := 0xFF, f := 0x70, pc := 0x0101, cycles := 4 }) := by decide

/-- V49 (R209). -/
theorem test_V49 :
    runs (start 0x0100 [0x9F]
      { junk with a := 0x00, f := 0x00 })
      (fun s =>
        { s with f := 0xC0, pc := 0x0101, cycles := 4 }) := by decide

/-- V50 (R211). -/
theorem test_V50 :
    runs (start 0x0100 [0xDE, 0x0F]
      { junk with a := 0x10, f := 0x10 })
      (fun s =>
        { s with a := 0x00, f := 0xE0, pc := 0x0102, cycles := 8 }) := by decide

/-- V51 (R214). -/
theorem test_V51 :
    runs (start 0x0100 [0xE6, 0x00]
      { junk with a := 0x5A, f := 0x10 })
      (fun s =>
        { s with a := 0x00, f := 0xA0, pc := 0x0102, cycles := 8 }) := by decide

/-- V52 (R215). -/
theorem test_V52 :
    runs (start 0x0100 [0xAF]
      { junk with a := 0x77, f := 0x70 })
      (fun s =>
        { s with a := 0x00, f := 0x80, pc := 0x0101, cycles := 4 }) := by decide

/-- V53 (R216). -/
theorem test_V53 :
    runs (start 0x0100 [0xAE]
      { junk with a := 0x0F, h := 0xC0, l := 0x00, f := 0xF0, mem := [(0xC000, 0xF0)] })
      (fun s =>
        { s with a := 0xFF, f := 0x00, pc := 0x0101, cycles := 8 }) := by decide

/-- V54 (R218). -/
theorem test_V54 :
    runs (start 0x0100 [0xB7]
      { junk with a := 0x00, f := 0x30 })
      (fun s =>
        { s with f := 0x80, pc := 0x0101, cycles := 4 }) := by decide

/-- V55 (R223). -/
theorem test_V55 :
    runs (start 0x0100 [0xFE, 0x3C]
      { junk with a := 0x3C, f := 0x00 })
      (fun s =>
        { s with f := 0xC0, pc := 0x0102, cycles := 8 }) := by decide

/-- V56 (R223). -/
theorem test_V56 :
    runs (start 0x0100 [0xFE, 0x40]
      { junk with a := 0x3C, f := 0x00 })
      (fun s =>
        { s with f := 0x50, pc := 0x0102, cycles := 8 }) := by decide

/-- V57 (R221). -/
theorem test_V57 :
    runs (start 0x0100 [0xB8]
      { junk with a := 0x3C, b := 0x2F, f := 0x00 })
      (fun s =>
        { s with f := 0x60, pc := 0x0101, cycles := 4 }) := by decide

/-- V60 (R224). -/
theorem test_V60 :
    runs (start 0x0100 [0x0C]
      { junk with c := 0x0F, f := 0x10 })
      (fun s =>
        { s with c := 0x10, f := 0x30, pc := 0x0101, cycles := 4 }) := by decide

/-- V61 (R224). -/
theorem test_V61 :
    runs (start 0x0100 [0x3C]
      { junk with a := 0xFF, f := 0x00 })
      (fun s =>
        { s with a := 0x00, f := 0xA0, pc := 0x0101, cycles := 4 }) := by decide

/-- V62 (R226). -/
theorem test_V62 :
    runs (start 0x0100 [0x05]
      { junk with b := 0x00, f := 0x10 })
      (fun s =>
        { s with b := 0xFF, f := 0x70, pc := 0x0101, cycles := 4 }) := by decide

/-- V63 (R226). -/
theorem test_V63 :
    runs (start 0x0100 [0x05]
      { junk with b := 0x10, f := 0x00 })
      (fun s =>
        { s with b := 0x0F, f := 0x60, pc := 0x0101, cycles := 4 }) := by decide

/-- V65 (R225). -/
theorem test_V65 :
    runs (start 0x0100 [0x34]
      { junk with h := 0xC0, l := 0x00, f := 0x00, mem := [(0xC000, 0x0F)] })
      (fun s =>
        { s with f := 0x20, pc := 0x0101, cycles := 12, mem := s.mem.write 0xC000 0x10 }) := by decide

/-- V66 (R227). -/
theorem test_V66 :
    runs (start 0x0100 [0x35]
      { junk with h := 0xC0, l := 0x00, f := 0x10, mem := [(0xC000, 0x01)] })
      (fun s =>
        { s with f := 0xD0, pc := 0x0101, cycles := 12, mem := s.mem.write 0xC000 0x00 }) := by decide

/-- V71 (R228). -/
theorem test_V71 :
    runs (start 0x0100 [0x27]
      { junk with a := 0x9A, f := 0x00 })
      (fun s =>
        { s with a := 0x00, f := 0x90, pc := 0x0101, cycles := 4 }) := by decide

/-- V74 (R228). -/
theorem test_V74 :
    runs (start 0x0100 [0x27]
      { junk with a := 0x0F, f := 0x60 })
      (fun s =>
        { s with a := 0x09, f := 0x40, pc := 0x0101, cycles := 4 }) := by decide

/-- V77 (R229). -/
theorem test_V77 :
    runs (start 0x0100 [0x2F]
      { junk with a := 0x35, f := 0x80 })
      (fun s =>
        { s with a := 0xCA, f := 0xE0, pc := 0x0101, cycles := 4 }) := by decide

/-- V78 (R230). -/
theorem test_V78 :
    runs (start 0x0100 [0x37]
      { junk with f := 0xE0 })
      (fun s =>
        { s with f := 0x90, pc := 0x0101, cycles := 4 }) := by decide

/-- V79 (R231). -/
theorem test_V79 :
    runs (start 0x0100 [0x3F]
      { junk with f := 0x90 })
      (fun s =>
        { s with f := 0x80, pc := 0x0101, cycles := 4 }) := by decide

/-- V80 (R231). -/
theorem test_V80 :
    runs (start 0x0100 [0x3F]
      { junk with f := 0x60 })
      (fun s =>
        { s with f := 0x10, pc := 0x0101, cycles := 4 }) := by decide

/-- V90 (R240). -/
theorem test_V90 :
    runs (start 0x0100 [0x09]
      { junk with h := 0x8A, l := 0x23, b := 0x06, c := 0x05, f := 0x80 })
      (fun s =>
        { s with h := 0x90, l := 0x28, f := 0xA0, pc := 0x0101, cycles := 8 }) := by decide

/-- V91 (R240). -/
theorem test_V91 :
    runs (start 0x0100 [0x29]
      { junk with h := 0x80, l := 0x00, f := 0x80 })
      (fun s =>
        { s with h := 0x00, f := 0x90, pc := 0x0101, cycles := 8 }) := by decide

/-- V92 (R240). -/
theorem test_V92 :
    runs (start 0x0100 [0x39]
      { junk with h := 0x00, l := 0x01, sp := 0xFFFF, f := 0x00 })
      (fun s =>
        { s with l := 0x00, f := 0x30, pc := 0x0101, cycles := 8 }) := by decide

/-- V93 (R241). -/
theorem test_V93 :
    runs (start 0x0100 [0x33]
      { junk with sp := 0xFFFF, f := 0xF0 })
      (fun s =>
        { s with sp := 0x0000, pc := 0x0101, cycles := 8 }) := by decide

/-- V94 (R242). -/
theorem test_V94 :
    runs (start 0x0100 [0x0B]
      { junk with b := 0x00, c := 0x00, f := 0x00 })
      (fun s =>
        { s with b := 0xFF, c := 0xFF, pc := 0x0101, cycles := 8 }) := by decide

/-- V95 (R243). -/
theorem test_V95 :
    runs (start 0x0100 [0xE8, 0x01]
      { junk with sp := 0xFFFF, f := 0x80 })
      (fun s =>
        { s with f := 0x30, sp := 0x0000, pc := 0x0102, cycles := 16 }) := by decide

/-- V96 (R243). -/
theorem test_V96 :
    runs (start 0x0100 [0xE8, 0xFF]
      { junk with sp := 0x0000, f := 0x00 })
      (fun s =>
        { s with sp := 0xFFFF, pc := 0x0102, cycles := 16 }) := by decide

/-- V100 (R250). -/
theorem test_V100 :
    runs (start 0x0100 [0x07]
      { junk with a := 0x00, f := 0x80 })
      (fun s =>
        { s with f := 0x00, pc := 0x0101, cycles := 4 }) := by decide

/-- V101 (R250). -/
theorem test_V101 :
    runs (start 0x0100 [0x07]
      { junk with a := 0x85, f := 0x00 })
      (fun s =>
        { s with a := 0x0B, f := 0x10, pc := 0x0101, cycles := 4 }) := by decide

/-- V102 (R251). -/
theorem test_V102 :
    runs (start 0x0100 [0x0F]
      { junk with a := 0x01, f := 0x00 })
      (fun s =>
        { s with a := 0x80, f := 0x10, pc := 0x0101, cycles := 4 }) := by decide

/-- V103 (R252). -/
theorem test_V103 :
    runs (start 0x0100 [0x17]
      { junk with a := 0x80, f := 0x10 })
      (fun s =>
        { s with a := 0x01, pc := 0x0101, cycles := 4 }) := by decide

/-- V104 (R252). -/
theorem test_V104 :
    runs (start 0x0100 [0x17]
      { junk with a := 0x80, f := 0x00 })
      (fun s =>
        { s with a := 0x00, f := 0x10, pc := 0x0101, cycles := 4 }) := by decide

/-- V105 (R253). -/
theorem test_V105 :
    runs (start 0x0100 [0x1F]
      { junk with a := 0x01, f := 0x10 })
      (fun s =>
        { s with a := 0x80, pc := 0x0101, cycles := 4 }) := by decide

/-- V106 (R254). -/
theorem test_V106 :
    runs (start 0x0100 [0xCB, 0x00]
      { junk with b := 0x80, f := 0x00 })
      (fun s =>
        { s with b := 0x01, f := 0x10, pc := 0x0102, cycles := 8 }) := by decide

/-- V107 (R255). -/
theorem test_V107 :
    runs (start 0x0100 [0xCB, 0x06]
      { junk with h := 0xC0, l := 0x00, f := 0x00, mem := [(0xC000, 0x80)] })
      (fun s =>
        { s with f := 0x10, pc := 0x0102, cycles := 16, mem := s.mem.write 0xC000 0x01 }) := by decide

/-- V108 (R258). -/
theorem test_V108 :
    runs (start 0x0100 [0xCB, 0x11]
      { junk with c := 0xD3, f := 0x10 })
      (fun s =>
        { s with c := 0xA7, pc := 0x0102, cycles := 8 }) := by decide

/-- V109 (R258). -/
theorem test_V109 :
    runs (start 0x0100 [0xCB, 0x11]
      { junk with c := 0x80, f := 0x00 })
      (fun s =>
        { s with c := 0x00, f := 0x90, pc := 0x0102, cycles := 8 }) := by decide

/-- V112 (R261). -/
theorem test_V112 :
    runs (start 0x0100 [0xCB, 0x1E]
      { junk with h := 0xC0, l := 0x00, f := 0x10, mem := [(0xC000, 0x01)] })
      (fun s =>
        { s with pc := 0x0102, cycles := 16, mem := s.mem.write 0xC000 0x80 }) := by decide

/-- V113 (R262). -/
theorem test_V113 :
    runs (start 0x0100 [0xCB, 0x22]
      { junk with d := 0x80, f := 0x00 })
      (fun s =>
        { s with d := 0x00, f := 0x90, pc := 0x0102, cycles := 8 }) := by decide

/-- V114 (R264). -/
theorem test_V114 :
    runs (start 0x0100 [0xCB, 0x2F]
      { junk with a := 0x81, f := 0x00 })
      (fun s =>
        { s with a := 0xC0, f := 0x10, pc := 0x0102, cycles := 8 }) := by decide

/-- V115 (R266). -/
theorem test_V115 :
    runs (start 0x0100 [0xCB, 0x37]
      { junk with a := 0xF0, f := 0x10 })
      (fun s =>
        { s with a := 0x0F, f := 0x00, pc := 0x0102, cycles := 8 }) := by decide

/-- V116 (R268). -/
theorem test_V116 :
    runs (start 0x0100 [0xCB, 0x3F]
      { junk with a := 0x80, f := 0x00 })
      (fun s =>
        { s with a := 0x40, pc := 0x0102, cycles := 8 }) := by decide

/-- V117 (R270). -/
theorem test_V117 :
    runs (start 0x0100 [0xCB, 0x7C]
      { junk with h := 0x80, f := 0x10 })
      (fun s =>
        { s with f := 0x30, pc := 0x0102, cycles := 8 }) := by decide

/-- V118 (R270). -/
theorem test_V118 :
    runs (start 0x0100 [0xCB, 0x5F]
      { junk with a := 0x00, f := 0x00 })
      (fun s =>
        { s with f := 0xA0, pc := 0x0102, cycles := 8 }) := by decide

/-- V119 (R271). -/
theorem test_V119 :
    runs (start 0x0100 [0xCB, 0x7E]
      { junk with h := 0xC0, l := 0x00, f := 0x10, mem := [(0xC000, 0x7F)] })
      (fun s =>
        { s with f := 0xB0, pc := 0x0102, cycles := 12 }) := by decide

/-- V120 (R273). -/
theorem test_V120 :
    runs (start 0x0100 [0xCB, 0x86]
      { junk with h := 0xC0, l := 0x00, f := 0xF0, mem := [(0xC000, 0xFF)] })
      (fun s =>
        { s with pc := 0x0102, cycles := 16, mem := s.mem.write 0xC000 0xFE }) := by decide

/-- V121 (R275). -/
theorem test_V121 :
    runs (start 0x0100 [0xCB, 0xFE]
      { junk with h := 0xC0, l := 0x00, mem := [] })
      (fun s =>
        { s with pc := 0x0102, cycles := 16, mem := s.mem.write 0xC000 0x80 }) := by decide

/-- V122 (R272). -/
theorem test_V122 :
    runs (start 0x0100 [0xCB, 0xBF]
      { junk with a := 0x80 })
      (fun s =>
        { s with a := 0x00, pc := 0x0102, cycles := 8 }) := by decide

/-- V123 (R274). -/
theorem test_V123 :
    runs (start 0x0100 [0xCB, 0xDF]
      { junk with a := 0x80 })
      (fun s =>
        { s with a := 0x88, pc := 0x0102, cycles := 8 }) := by decide

/-- V124 (R254). -/
theorem test_V124 :
    runs (start 0xFFFF [0xCB, 0x00]
      { junk with b := 0x01, f := 0x00 })
      (fun s =>
        { s with b := 0x02, pc := 0x0001, cycles := 8 }) := by decide

/-- V125 (R275). -/
theorem test_V125 :
    runs (start 0x0000 [0xCB, 0xC6]
      { junk with h := 0x00, l := 0x01, f := 0x00 })
      (fun s =>
        { s with pc := 0x0002, cycles := 16, mem := s.mem.write 0x0001 0xC7 }) := by decide

/-- V130 (R290). -/
theorem test_V130 :
    runs (start 0x0100 [0xC3, 0x50, 0x01]
      junk)
      (fun s =>
        { s with pc := 0x0150, cycles := 16 }) := by decide

/-- V131 (R291). -/
theorem test_V131 :
    runs (start 0x0100 [0xCA, 0x00, 0x02]
      { junk with f := 0x80 })
      (fun s =>
        { s with pc := 0x0200, cycles := 16 }) := by decide

/-- V132 (R291). -/
theorem test_V132 :
    runs (start 0x0100 [0xCA, 0x00, 0x02]
      { junk with f := 0x00 })
      (fun s =>
        { s with pc := 0x0103, cycles := 16 }) := by decide

/-- V133 (R291). -/
theorem test_V133 :
    runs (start 0x0100 [0xD2, 0x00, 0x02]
      { junk with f := 0x10 })
      (fun s =>
        { s with pc := 0x0103, cycles := 16 }) := by decide

/-- V134 (R291). -/
theorem test_V134 :
    runs (start 0x0100 [0xDA, 0x00, 0x02]
      { junk with f := 0x10 })
      (fun s =>
        { s with pc := 0x0200, cycles := 16 }) := by decide

/-- V135 (R292). -/
theorem test_V135 :
    runs (start 0x0100 [0xE9]
      { junk with h := 0xC0, l := 0x00 })
      (fun s =>
        { s with pc := 0xC000, cycles := 4 }) := by decide

/-- V137 (R293). -/
theorem test_V137 :
    runs (start 0x0000 [0x18, 0x80]
      junk)
      (fun s =>
        { s with pc := 0xFF82, cycles := 12 }) := by decide

/-- V138 (R293). -/
theorem test_V138 :
    runs (start 0x0100 [0x18, 0x7F]
      junk)
      (fun s =>
        { s with pc := 0x0181, cycles := 12 }) := by decide

/-- V139 (R294). -/
theorem test_V139 :
    runs (start 0x000A [0x20, 0xFB]
      { junk with f := 0x00 })
      (fun s =>
        { s with pc := 0x0007, cycles := 12 }) := by decide

/-- V140 (R294). -/
theorem test_V140 :
    runs (start 0x000A [0x20, 0xFB]
      { junk with f := 0x80 })
      (fun s =>
        { s with pc := 0x000C, cycles := 12 }) := by decide

/-- V141 (R294). -/
theorem test_V141 :
    runs (start 0x0100 [0x30, 0x10]
      { junk with f := 0x10 })
      (fun s =>
        { s with pc := 0x0102, cycles := 12 }) := by decide

/-- V142 (R294). -/
theorem test_V142 :
    runs (start 0x0100 [0x38, 0x10]
      { junk with f := 0x10 })
      (fun s =>
        { s with pc := 0x0112, cycles := 12 }) := by decide

/-- V143 (R295). -/
theorem test_V143 :
    runs (start 0x0028 [0xCD, 0x34, 0x12]
      { junk with sp := 0xFFFE })
      (fun s =>
        { s with sp := 0xFFFC, pc := 0x1234, cycles := 24, mem := (s.mem.write 0xFFFC 0x2B).write 0xFFFD 0x00 }) := by
  decide

/-- V144 (R296). -/
theorem test_V144 :
    runs (start 0x0200 [0xD4, 0x00, 0x03]
      { junk with sp := 0xFFFE, f := 0x00 })
      (fun s =>
        { s with sp := 0xFFFC, pc := 0x0300, cycles := 24, mem := (s.mem.write 0xFFFC 0x03).write 0xFFFD 0x02 }) := by
  decide

/-- V145 (R296). -/
theorem test_V145 :
    runs (start 0x0200 [0xD4, 0x00, 0x03]
      { junk with sp := 0xFFFE, f := 0x10 })
      (fun s =>
        { s with pc := 0x0203, cycles := 24 }) := by decide

/-- V146 (R297). -/
theorem test_V146 :
    runs (start 0x1234 [0xC9]
      { junk with sp := 0xFFFC, mem := [(0xFFFC, 0x2B)] })
      (fun s =>
        { s with sp := 0xFFFE, pc := 0x002B, cycles := 16 }) := by decide

/-- V147 (R298). -/
theorem test_V147 :
    runs (start 0x1234 [0xC8]
      { junk with sp := 0xFFFC, f := 0x80, mem := [(0xFFFC, 0x2B)] })
      (fun s =>
        { s with sp := 0xFFFE, pc := 0x002B, cycles := 20 }) := by decide

/-- V148 (R298). -/
theorem test_V148 :
    runs (start 0x1234 [0xC8]
      { junk with sp := 0xFFFC, f := 0x00, mem := [(0xFFFC, 0x2B)] })
      (fun s =>
        { s with pc := 0x1235, cycles := 20 }) := by decide

/-- V149 (R299). -/
theorem test_V149 :
    runs (start 0x1234 [0xD9]
      { junk with sp := 0xFFFC, ime := false, mem := [(0xFFFD, 0x02)] })
      (fun s =>
        { s with sp := 0xFFFE, pc := 0x0200, ime := true, cycles := 16 }) := by decide

/-- V150 (R300). -/
theorem test_V150 :
    runs (start 0x0150 [0xEF]
      { junk with sp := 0xFFFE })
      (fun s =>
        { s with sp := 0xFFFC, pc := 0x0028, cycles := 16, mem := (s.mem.write 0xFFFC 0x51).write 0xFFFD 0x01 }) := by
  decide

/-- V151 (R300). -/
theorem test_V151 :
    runs (start 0x0038 [0xFF]
      { junk with sp := 0xFFFE })
      (fun s =>
        { s with sp := 0xFFFC, pc := 0x0038, cycles := 16, mem := (s.mem.write 0xFFFC 0x39).write 0xFFFD 0x00 }) := by
  decide

/-- V160 (R310). -/
theorem test_V160 :
    runs (start 0x0100 [0x00]
      junk)
      (fun s =>
        { s with pc := 0x0101, cycles := 4 }) := by decide

/-- V161 (R311). -/
theorem test_V161 :
    runs (start 0x0200 [0x76]
      junk)
      (fun s =>
        { s with pc := 0x0201, halted := true, cycles := 4 }) := by decide

/-- V163 (R312). -/
theorem test_V163 :
    runs (start 0x0300 [0x10, 0xFF]
      junk)
      (fun s =>
        { s with pc := 0x0302, halted := true, cycles := 4 }) := by decide

/-- V164 (R313). -/
theorem test_V164 :
    runs (start 0x0100 [0xF3]
      { junk with ime := true })
      (fun s =>
        { s with pc := 0x0101, ime := false, cycles := 4 }) := by decide

/-- V165 (R314). -/
theorem test_V165 :
    runs (start 0x0100 [0xFB]
      { junk with ime := false })
      (fun s =>
        { s with pc := 0x0101, ime := true, cycles := 4 }) := by decide

/-- V170 (R112). -/
theorem test_V170 :
    runs (start 0x0100 [0xD3]
      junk)
      (fun s =>
        { s with pc := 0x0100 }) := by decide

/-! ## Stalls, events and callbacks -/

/-- V172 (R112): `IMPLEMENTED` without CB 37: PC = prefix + 1, one event with the byte. -/
theorem test_V172 :
    (start 0x0100 [0xCB, 0x37] { junk with config := sparse }).report = .stalled 0x37 ∧
    runs (attached [] [] (start 0x0100 [0xCB, 0x37] { junk with config := sparse }))
      (fun s => { s with pc := 0x0101
                         bridge := some ⟨[], [], [.event (.unimplementedOpcode 0x37)]⟩ }) := by decide

/-- V173 (R401): the step after runs 0x37 (SCF) as a base opcode. -/
theorem test_V173 :
    runs (start 0x0100 [0xCB, 0x37] { junk with a := 0x00, f := 0x00, config := sparse })
      (fun s => { s with pc := 0x0101 }) ∧
    runs { start 0x0100 [0xCB, 0x37] { junk with a := 0x00, f := 0x00, config := sparse } with pc := 0x0101 }
      (fun s => { s with f := 0x10, pc := 0x0102, cycles := 4 }) := by decide

/-- V171 (R401, R460): a base stall repeats for ever. -/
theorem test_V171_stuck : (start 0x0100 [0xD3] junk).stuck :=
  State.stuck_of_repeats (key := 0xD3) (by decide) rfl

/-- V173 (R401, R460): the first step stalls, the second executes SCF, so the state is not stuck. -/
theorem test_V173_not_stuck :
    ¬ (start 0x0100 [0xCB, 0x37] { junk with config := sparse }).stuck := by
  intro h
  obtain ⟨key, hk⟩ := ((State.stuck_iff _).mp (((State.stuck_iff _).mp h).2 _ rfl)).1
  exact absurd hk (by rw [show State.report _ = .executed (.base 0x37) by decide]; simp)

/-- V174 (R112): `IMPLEMENTED` without 0x00: NOP stalls. -/
theorem test_V174 : runs (start 0x0100 [0x00] { junk with config := sparse }) (fun s => s) := by decide

/-- V180 and V181 (R113, R410): the two events with one debug view. -/
theorem test_V180_V181 :
    nextIs (step (attached [] [] (start 0x0100 [0x78] junk))) (fun t => t.bridge = some ⟨[], [],
      [.event (.beforeExecute ⟨0x78, "LD A,B", 4, 1⟩), .event (.afterExecute ⟨0x78, "LD A,B", 4, 1⟩)]⟩) ∧
    nextIs (step (attached [] [] (start 0x0100 [0xCB, 0x37] junk))) (fun t => t.bridge = some ⟨[], [],
      [.event (.beforeExecute ⟨0x37, "SWAP A", 8, 1⟩), .event (.afterExecute ⟨0x37, "SWAP A", 8, 1⟩)]⟩) := by
  decide

/-- V180 (R114): PC is `op_addr` in the before callback and the next instruction's address in the after callback. -/
theorem test_V180_pc :
    nextIs (step (attached [.afterExecute, .beforeExecute] [[.cpuState], [.cpuState]] (start 0x0100 [0x78] junk)))
      (fun t => (t.bridge.map fun br => br.record.filterMap fun
        | .cpuState c => some c.programCounter
        | _ => none) = some [0x0100, 0x0101]) := by decide

/-- V182 and V183 (R112, R117). -/
theorem test_V182_V183 :
    runs (attached [] [] (start 0x0100 [0xD3] junk))
      (fun s => { s with bridge := some ⟨[], [], [.event (.unimplementedOpcode 0xD3)]⟩ }) ∧
    runs (attached [] [] { start 0x0100 [0x78] junk with halted := true }) (fun s => s) := by decide

/-- V184 (R415): the flag string for F = B0, 00, 40 and F0. -/
theorem test_V184 :
    { junk with f := 0xB0 }.flagString = "Z-HC" ∧ { junk with f := 0x00 }.flagString = "----" ∧
    { junk with f := 0x40 }.flagString = "-N--" ∧ { junk with f := 0xF0 }.flagString = "ZNHC" := by decide

/-- V185 (R411): the before callback's write is the operand the action reads. -/
theorem test_V185 :
    nextIs (step (attached [.beforeExecute] [[.writeByte 0x0101 0x42]] (start 0x0100 [0x3E, 0x00] junk)))
      (fun t => t.a = 0x42) := by decide

/-- V186 (R65): the after callback's write is the next instruction: a NOP, no stall. -/
theorem test_V186 :
    nextIs (step (attached [.afterExecute] [[.writeByte 0x0101 0x00]] (start 0x0100 [0x00, 0xD3] junk)))
      (fun t => t.pc = 0x0101 ∧ t.report = .executed (.base 0x00)) := by decide

/-- R411, R413: an error ends its callback and is logged, what was written stays, and the next callback runs. -/
theorem test_failing_callback :
    nextIs (step (attached [.beforeExecute, .beforeExecute]
        [[.writeByte 0xC000 1, .raiseError, .writeByte 0xC001 2], [.writeByte 0xC002 3, .breakpoint]]
        (start 0x0100 [0x00] junk)))
      (fun t => t.readByte 0xC000 = 1 ∧ t.readByte 0xC001 = 0 ∧ t.readByte 0xC002 = 3 ∧
        t.runMode = .awaitingDebugStep ∧ t.pc = 0x0101) := by decide

/-- R69: a snapshot holds the byte at each address, from 0 up. -/
theorem test_dumpMemory (s : State) (a : Nat) (h : a < 0x10000) :
    s.dumpMemory[a]? = some (s.readByte (BitVec.ofNat 16 a)) := by
  simp [State.dumpMemory, h]

/-! ## Startup and the host -/

/-- R450, R452 and log entries 3, 4, 5: the plain launch starts at `State.reset`. -/
theorem test_startup_plain : startup plainLaunch = .ok State.reset := rfl

/-- R61, R69, R450: the script's load writes over the boot image and over `INIT_MEM`, its snapshot shows memory as its
earlier actions left it, and the callbacks it subscribes stand in the order of its subscriptions. -/
theorem test_startup_script_load :
    (match startup { plainLaunch with
        initMem := [1, 2, 3], boot := some (.bytes [9, 8]),
        debug := some (.loaded [.writeByte 0x0000 0x42, .subscribe .afterExecute, .dumpMemory, .writeByte 0x0002 0x00,
          .subscribe .beforeExecute, .writeByte 0xFFFF 0x07] [[.breakpoint]]) } with
      | .ok s => decide (s.pc = 0 ∧ s.mem = [(0, 0x42), (1, 8), (0xFFFF, 0x07)] ∧ s.runMode = .running ∧
          s.bridge = some ⟨[.afterExecute, .beforeExecute], [[.breakpoint]],
            [.memory [(0, 0x42), (1, 8), (2, 3)]]⟩)
      | .error _ => false) = true := by decide

/-- R68, R450: a boot image lies over `INIT_MEM`, PC is 0, and the script's subscriptions stand. -/
theorem test_startup_boot :
    (match startup { plainLaunch with
        initMem := [1, 2, 3], boot := some (.bytes [9, 8]), resetPc := 0x0100,
        debug := some (.loaded [.subscribe .beforeExecute] []) } with
      | .ok s => decide (s.pc = 0 ∧ s.mem = [(0, 9), (1, 8), (2, 3)] ∧
          s.bridge = some ⟨[.beforeExecute], [], []⟩)
      | .error _ => false) = true := by decide

/-- R450 without a boot image: PC is `RESET_PC`, SP and the flags are those of `RESET_REGS`. -/
theorem test_startup_no_boot :
    (match startup { plainLaunch with
        resetPc := 0x0100, resetRegs := { plainLaunch.resetRegs with a := 1, z := true, cf := true, sp := 0xFFFE } } with
      | .ok s => decide (s.pc = 0x0100 ∧ s.a = 1 ∧ s.f = 0x90 ∧ s.sp = 0xFFFE)
      | .error _ => false) = true := by decide

/-- R451: the typed failures. -/
theorem test_startup_failures :
    startup { plainLaunch with rom := none } = .error .usage ∧
    startup { plainLaunch with rom := some .unreadable } = .error .ioError ∧
    startup { plainLaunch with boot := some .unreadable } = .error .ioError ∧
    startup { plainLaunch with debug := some .loadFailure } = .error .scriptError := ⟨rfl, rfl, rfl, rfl⟩

/-- R68: 256 bytes load, 257 do not. -/
theorem test_loadImage_limit (image : List Byte) (m : Memory) :
    (image.length = 257 → loadImage (.bytes image) m = .error .validationError) ∧
    (image.length = 256 → loadImage (.bytes image) m = .ok (m.writeBytes 0 image)) := by
  constructor <;> intro h <;> simp [loadImage, h]

/-- R412 (log 12): an early signal is kept or dropped as the argument says. -/
theorem test_early_signal :
    (requestNext true junk).stepSignal = true ∧ (requestNext false junk).stepSignal = false ∧
    (requestContinue false { junk with runMode := .awaitingDebugStep }).continueSignal = true := by decide

/-! ## Witnesses: states and operands that meet the hypotheses of the statements -/

/-- DecodeOfEncode, EncodeOfDecode. -/
theorem test_witness_encoding :
    (Instr.jp_a16 0xFFFF).wellFormed {} = true ∧ (Instr.prefixCb 0x37).wellFormed sparse = true ∧
    decode {} [0xC3, 0xFF, 0xFF, 0x01] = .ok (.jp_a16 0xFFFF, [0x01]) ∧
    decode sparse [0xCB, 0x37] = .ok (.prefixCb 0x37, []) := by decide

/-- StepRunsDecodedInstruction: a base and, with the prefix at 0xFFFF, an extended instruction. -/
theorem test_witness_stepRunsDecoded :
    (let s := start 0x0100 [0x31, 0xFE, 0xFF] junk
     s.halted = false ∧ s.bridge = none ∧ decode s.config s.bytesAtPc = .ok (.ld_sp_d16 0xFFFE, []) ∧
       (Instr.ld_sp_d16 0xFFFE).wellFormed s.config = true) ∧
    (let s := start 0xFFFF [0xCB, 0x37] junk
     s.halted = false ∧ s.bridge = none ∧ decode s.config s.bytesAtPc = .ok (.swap_a, [0x00]) ∧
       Instr.swap_a.wellFormed s.config = true) := by decide

/-- MissingDescriptorStalls: a base byte, and a prefix at 0xFFFF whose second byte is at 0x0000. -/
theorem test_witness_missingDescriptor :
    (let s := start 0x0100 [0xD3] junk
     s.halted = false ∧ s.config.has s.fetchKey = false ∧ s.bridge = none ∧ s.readByte s.pc ≠ 0xCB) ∧
    (let s := start 0xFFFF [0xCB, 0x37] { junk with config := sparse }
     s.halted = false ∧ s.config.has s.fetchKey = false ∧ s.bridge = none ∧ s.readByte s.pc = 0xCB) := by decide

/-- StepRunsCallbacksAroundInstruction: a before callback rewrites the operand, and the instruction answers a next
state. -/
theorem test_witness_callbacksAround :
    (let s := attached [.beforeExecute] [[.writeByte 0x0101 0x42]] (start 0x0100 [0x3E, 0x00] junk)
     let t := s.atOpAddr.fire (.beforeExecute (debugView s.config s.fetchKey))
     s.halted = false ∧ s.config.has s.fetchKey = true ∧ nextIs (exec (t.instrAt s.fetchKey) t) (fun u => u.a = 0x42)) := by
  decide

/-- OperandBytesFollowOpcode: one, two and no operand bytes, and two across 0xFFFF. -/
theorem test_witness_operandBytes :
    junk.config.has (.base 0x3E) = true ∧ junk.config.has (.base 0xC3) = true ∧ junk.config.has (.ext 0x37) = true ∧
    (start 0xFFFF [0xC3, 0x34, 0x12] junk).instrAt (.base 0xC3) = .jp_a16 0x1234 := by decide

/-- HaltedStepChangesNothing. -/
theorem test_witness_halted : { junk with halted := true }.halted = true := rfl

/-- StepPublishesEventsInOrder: the three reports of a step, with a bridge that subscribes nothing. -/
theorem test_witness_events :
    (attached [] [] junk).bridge = some ⟨[], [], []⟩ ∧
    (attached [] [] (start 0x0100 [0x78] junk)).report = .executed (.base 0x78) ∧
    (attached [] [] (start 0x0100 [0xD3] junk)).report = .stalled 0xD3 ∧
    (attached [] [] { junk with halted := true }).report = .halted := by decide

/-- StepKeepsInvariant: a step from a state of the invariant, which stores at 0xFFFF. -/
theorem test_witness_invariant :
    (start 0x0100 [0xEA, 0xFF, 0xFF] junk).Inv ∧
    nextIs (step (start 0x0100 [0xEA, 0xFF, 0xFF] junk)) (fun t => t.readByte 0xFFFF = 0x11) := by decide

/-- OnlyNamedInstructionsChangeControl: HALT and STOP change `halted`; DI, EI and RETI change IME. -/
theorem test_witness_control :
    nextIs (step (start 0x0100 [0x76] junk)) (fun t => t.halted) ∧
    nextIs (step (start 0x0100 [0x10, 0x00] junk)) (fun t => t.halted) ∧
    nextIs (step (start 0x0100 [0xF3] { junk with ime := true })) (fun t => !t.ime) ∧
    nextIs (step (start 0x0100 [0xFB] junk)) (fun t => t.ime) ∧
    nextIs (step (start 0x0100 [0xD9] junk)) (fun t => t.ime) := by decide

/-- ImeAndCyclesAreNotRead, RunModeIsNotRead: a step that answers a next state, from each of two states that differ in
what is not read. -/
theorem test_witness_notRead :
    nextIs (step (start 0x0100 [0x80] junk)) (fun t => t.a = 0x33) ∧
    nextIs (step { start 0x0100 [0x80] junk with
      ime := true, cycles := 7, runMode := .awaitingDebugStep, stepSignal := true, continueSignal := true })
      (fun t => t.a = 0x33 ∧ t.cycles = 11 ∧ t.ime) := by decide

/-- IdleBridgeChangesNothing: a bridge whose subscribed callbacks have nothing to do. -/
theorem test_witness_idleBridge :
    (attached [.beforeExecute, .afterExecute] [] (start 0x0100 [0x80] junk)).bridge =
      some ⟨[.beforeExecute, .afterExecute], [], []⟩ ∧
    nextIs (step (attached [.beforeExecute, .afterExecute] [] (start 0x0100 [0x80] junk))) (fun t => t.a = 0x33) := by
  decide

/-- CallbacksTouchMemoryAndRunModeOnly: no bridge, and one whose next callback writes and then fails. -/
theorem test_witness_callbacks :
    junk.bridge = none ∧
    (attached [] [[.writeByte 0xFFFF 0x01, .raiseError, .breakpoint]] junk).bridge =
      some ⟨[], [.writeByte 0xFFFF 0x01 :: .raiseError :: [.breakpoint]], []⟩ := by decide

/-- PairRoundTrip: AF with F[3:0] at 0, and a pair other than AF. -/
theorem test_witness_pairs :
    junk.f &&& 0x0F = 0 ∧ (Pair.bc ≠ .af) ∧ (junk.setPair .af 0x12FF).getPair .af = 0x12F0 ∧
    (junk.setPair .hl 0x1234).getPair .hl = 0x1234 := by decide

/-- WordsAreLittleEndianAndWrap at its boundary: a word at 0xFFFF, and a push from SP = 1. -/
theorem test_witness_words :
    (junk.writeWord 0xFFFF 0x1234).readByte 0xFFFF = 0x34 ∧ (junk.writeWord 0xFFFF 0x1234).readByte 0x0000 = 0x12 ∧
    ({ junk with sp := 1 }.push16 0xABCD).readByte 0x0000 = 0xAB ∧
    ({ junk with sp := 1 }.push16 0xABCD).readByte 0xFFFF = 0xCD := by decide

/-- StartupLeavesLaunchInputs: a launch that succeeds, one with a boot image, one whose script writes the last byte of
the image and the byte after it while it loads, and one whose image is too long. -/
theorem test_witness_startup :
    startup plainLaunch = .ok State.reset ∧
    (match startup { plainLaunch with boot := some (.bytes [1]) } with
      | .ok s => decide (s.readByte 0 = 1 ∧ s.readByte 1 = 0)
      | .error _ => false) = true ∧
    (match startup { plainLaunch with
        boot := some (.bytes [1, 2])
        debug := some (.loaded [.writeByte 1 5, .writeByte 2 6, .writeByte 1 7] []) } with
      | .ok s => decide (s.readByte 0 = 1 ∧ s.readByte 1 = 7 ∧ s.readByte 2 = 6)
      | .error _ => false) = true ∧
    plainLaunch.rom = some (.bytes []) ∧ 256 < (List.replicate 257 (0 : Byte)).length := by
  exact ⟨rfl, by decide, by decide, rfl, by rw [List.length_replicate]; decide⟩

/-- LoopServesSignals: running, and the four cases of waiting. -/
theorem test_witness_loop :
    junk.runMode = .running ∧
    (let s := { junk with runMode := .awaitingDebugStep }
     s.runMode = .awaitingDebugStep ∧ s.stepSignal = false ∧ s.continueSignal = false ∧
       { s with stepSignal := true }.stepSignal = true ∧ { s with continueSignal := true }.continueSignal = true) := by
  decide

/-- LoopServesSignals: a Continue signal clears the awaiting state, and a Step signal runs one instruction. -/
theorem test_loop_signals :
    nextIs (loopTurn true { start 0x0100 [0x00] junk with runMode := .awaitingDebugStep, continueSignal := true })
      (fun t => t.runMode = .running ∧ t.pc = 0x0100 ∧ !t.continueSignal) ∧
    nextIs (loopTurn false { start 0x0100 [0x00] junk with runMode := .awaitingDebugStep, stepSignal := true })
      (fun t => t.runMode = .awaitingDebugStep ∧ t.pc = 0x0101 ∧ !t.stepSignal) := by decide

/-- PushPair and PopPair: AF and another pair. -/
theorem test_witness_popPair : (Pair.af = .af) ∧ Pair.hl ≠ .af ∧ Pair.bc ≠ .hl ∧ Pair.bc ≠ .af := by decide

/-- AddAndAddWithCarry, SubtractAndSubtractWithCarry, AndXorOr: each operation, with the carry it takes in. -/
theorem test_witness_alu :
    AluOp.adc ∈ [AluOp.add, .adc] ∧ AluOp.add ∈ [AluOp.add, .adc] ∧ AluOp.sbc ∈ [AluOp.sub, .sbc] ∧
    AluOp.sub ∈ [AluOp.sub, .sbc] ∧ AluOp.or ∈ [AluOp.and, .xor, .or] ∧
    { junk with f := 0x10 }.flagC.toNat = 1 ∧ junk.flagC.toNat = 0 := by decide

/-- DecimalAdjust: N clear and N set. -/
theorem test_witness_daa : junk.flagN = false ∧ { junk with f := 0x40 }.flagN = true := by decide

/-- AbsoluteJumps, RelativeJumps, Calls, ConditionalReturns: a state where each condition holds and one where it does
not. -/
theorem test_witness_conditions : ∀ cc : Cond,
    ({ junk with f := 0x00 }.cond cc = true ∧ { junk with f := 0xF0 }.cond cc = false) ∨
    ({ junk with f := 0xF0 }.cond cc = true ∧ { junk with f := 0x00 }.cond cc = false) := by
  intro cc
  cases cc <;> decide

/-- RelativeJumps at its boundary: the displacement -128 from 0x0000 and 127 from 0xFFFF wrap. -/
theorem test_relative_wraps :
    nextIs (exec (.jr_e8 0x80) { junk with pc := 0x0000 }) (fun t => t.pc = 0xFF82) ∧
    nextIs (exec (.jr_e8 0x7F) { junk with pc := 0xFFFF }) (fun t => t.pc = 0x0080) := by decide

/-- RotateAccumulator, MissingDescriptorCompletes: members of their lists; a bridge and none. -/
theorem test_witness_lists :
    (Instr.rla, (0x17 : Byte), ShiftOp.rl) ∈ [(Instr.rla, (0x17 : Byte), ShiftOp.rl)] ∧
    Instr.prefixCb 0x37 ∈ [Instr.illegal 0x37, .prefixCb 0x37] ∧ junk.bridge = none ∧
    (attached [] [] junk).bridge = some ⟨[], [], []⟩ := by decide

end Sys2Proof.Tests
end

section
/-!
SUPPORT. What an action does beside the registers and memory: no action reads the host side, IME, `halted` or the cycle
counter, and only HALT, STOP, DI, EI and RETI write one of them.
-/

namespace Sys2Proof.Machine

/-- What the state holds beside the registers, SP, PC and memory. -/
structure Rest where
  cycles : Nat
  ime : Bool
  halted : Bool
  runMode : RunMode
  stepSignal : Bool
  continueSignal : Bool
  bridge : Option Bridge
  config : Config

/-- The rest of a state. -/
def State.rest (s : State) : Rest :=
  ⟨s.cycles, s.ime, s.halted, s.runMode, s.stepSignal, s.continueSignal, s.bridge, s.config⟩

/-- The registers, SP, PC and memory of a state, with another rest. -/
def State.withRest (s : State) (u : Rest) : State :=
  { s with
    cycles := u.cycles, ime := u.ime, halted := u.halted, runMode := u.runMode, stepSignal := u.stepSignal,
    continueSignal := u.continueSignal, bridge := u.bridge, config := u.config }

/-! ## The operations do not see the rest -/

section
variable (s : State) (u : Rest)

@[simp] theorem State.getR_withRest (r : Reg8) : (s.withRest u).getR r = s.getR r := by cases r <;> rfl

@[simp] theorem State.getPair_withRest (p : Pair) : (s.withRest u).getPair p = s.getPair p := by cases p <;> rfl

@[simp] theorem State.getReg16_withRest (r : Reg16) : (s.withRest u).getReg16 r = s.getReg16 r := by
  cases r <;> rfl

@[simp] theorem State.source_withRest (x : Source) : (s.withRest u).source x = s.source x := by
  cases x with
  | reg r => exact State.getR_withRest s u r
  | atHL => rfl
  | imm n => rfl

@[simp] theorem State.cond_withRest (cc : Cond) : (s.withRest u).cond cc = s.cond cc := by cases cc <;> rfl

@[simp] theorem State.setR_withRest (r : Reg8) (v : Byte) :
    (s.withRest u).setR r v = (s.setR r v).withRest u := by cases r <;> rfl

@[simp] theorem State.setPair_withRest (p : Pair) (w : Word) :
    (s.withRest u).setPair p w = (s.setPair p w).withRest u := by cases p <;> rfl

@[simp] theorem State.setReg16_withRest (r : Reg16) (w : Word) :
    (s.withRest u).setReg16 r w = (s.setReg16 r w).withRest u := by cases r <;> rfl

end

/-! ## The actions -/

/-- What the action of a descriptor can do to the rest: nothing; HALT and STOP set `halted` (R311, R312); DI, EI and
RETI write IME (R299, R313, R314). -/
inductive RestChange (k : OpKey) : (Rest → Rest) → Prop
  | keep : RestChange k id
  | halt (hk : k = .base 0x76 ∨ k = .base 0x10) : RestChange k fun u => { u with halted := true }
  | setIme (b : Bool) (hk : k = .base 0xF3 ∨ k = .base 0xFB ∨ k = .base 0xD9) :
      RestChange k fun u => { u with ime := b }

/-- An action computes the registers and memory from these alone, and the rest from the rest alone. -/
theorem action_withRest {k : OpKey} {act : State → State} (h : IsAction k act) :
    ∃ φ, RestChange k φ ∧ ∀ s u, act (s.withRest u) = (act s).withRest (φ u) := by
  cases h
  case enterHalt | enterStop => exact ⟨_, .halt (by simp), fun _ _ => rfl⟩
  case disableInterrupts | enableInterrupts | returnAndEnable => exact ⟨_, .setIme _ (by simp), fun _ _ => rfl⟩
  case loadReg | loadImm | loadFromHL | clearReg | assertReg =>
    exact ⟨id, .keep, fun s u => State.setR_withRest s u _ _⟩
  case incReg | decReg | shiftReg =>
    exact ⟨id, .keep, fun s u => by
      simp only [incReg, decReg, shiftReg, State.getR_withRest, State.setR_withRest]
      rfl⟩
  case loadPair | incPair | decPair => exact ⟨id, .keep, fun s u => by simp [loadPair, incPair, decPair]⟩
  case pop p => exact ⟨id, .keep, fun s u => State.setPair_withRest s.drop16 u p _⟩
  case indLoad p _ => exact ⟨id, .keep, fun s u => State.setPair_withRest (loadA (s.getPair p) s) u p _⟩
  case indStore p _ => exact ⟨id, .keep, fun s u => State.setPair_withRest (storeA (s.getPair p) s) u p _⟩
  case alu op src => exact ⟨id, .keep, fun s u => by simp only [alu, State.source_withRest]; split <;> rfl⟩
  case jumpCond | callCond | returnCond =>
    exact ⟨id, .keep, fun s u => by
      simp only [jumpCond, callCond, returnCond, State.cond_withRest]
      split <;> rfl⟩
  -- The other actions write named registers, PC, SP or memory: both sides unfold to one state.
  all_goals exact ⟨id, .keep, fun _ _ => rfl⟩

end Sys2Proof.Machine
end

section
/-!
SUPPORT. The invariant through every action (spec/10_state.md R25).
-/

namespace Sys2Proof.Machine

/-! ## The invariant through the operations -/

/-- The invariant speaks of memory and F alone. -/
theorem State.Inv.of_eq {s t : State} (hs : s.Inv) (hm : t.mem = s.mem) (hf : t.f = s.f) : t.Inv := by
  obtain ⟨hwf, hlow⟩ := hs
  exact ⟨hm ▸ hwf, hf ▸ hlow⟩

theorem State.Inv.setR {s : State} (hs : s.Inv) (r : Reg8) (v : Byte) : (s.setR r v).Inv :=
  hs.of_eq (State.setR_mem s r v) (State.setR_f s r v)

/-- A write of F clears bits 3 to 0 (R25). -/
theorem State.Inv.writeF {s : State} (hs : s.Inv) (v : Byte) : (s.writeF v).Inv := by
  refine ⟨hs.1, ?_⟩
  rw [State.writeF_f, BitVec.and_assoc]
  exact BitVec.and_zero

theorem State.Inv.setF {s : State} (hs : s.Inv) (z n h c : Bool) : (s.setF z n h c).Inv :=
  hs.writeF (packFlags z n h c)

theorem State.Inv.setFlags {s : State} (hs : s.Inv) (r : Flagged) : (s.setFlags r).Inv :=
  hs.setF r.z r.n r.h r.c

theorem State.Inv.setPair {s : State} (hs : s.Inv) (p : Pair) (w : Word) : (s.setPair p w).Inv := by
  cases p with
  | af => exact State.Inv.writeF (s := { s with a := hiByte w }) hs (loByte w)
  | bc | de | hl => exact hs

theorem State.Inv.setReg16 {s : State} (hs : s.Inv) (r : Reg16) (w : Word) : (s.setReg16 r w).Inv :=
  hs.of_eq (State.setReg16_mem s r w) (State.setReg16_f s r w)

theorem State.Inv.writeByte {s : State} (hs : s.Inv) (a : Word) (v : Byte) : (s.writeByte a v).Inv :=
  ⟨wf_writeByte a v hs.1, hs.2⟩

theorem State.Inv.push16 {s : State} (hs : s.Inv) (w : Word) : (s.push16 w).Inv :=
  ⟨wf_push16 w hs.1, hs.2⟩

theorem State.Inv.retire {s : State} (hs : s.Inv) (k : OpKey) : (s.retire k).Inv :=
  hs.of_eq (State.retire_mem s k) (State.retire_f s k)

/-! ## The invariant through the actions -/

/-- Every action keeps the invariant. -/
theorem action_inv {k : OpKey} {act : State → State} (h : IsAction k act) {s : State} (hs : s.Inv) : (act s).Inv := by
  cases h
  case loadReg | loadImm | loadFromHL | loadA | loadAHigh | clearReg | assertReg => exact hs.setR _ _
  case storeReg | storeImm | storeA | storeAHigh | clearHL | assertHL => exact hs.writeByte _ _
  case storeSP => exact (hs.writeByte _ _).writeByte _ _
  case indLoad => exact (hs.setR _ _).setPair _ _
  case indStore => exact (hs.writeByte _ _).setPair _ _
  case loadPair | incPair | decPair => exact hs.setReg16 _ _
  case loadHLFromSP | addHL => exact (hs.setPair _ _).setF _ _ _ _
  case addSP => exact State.Inv.setF (s := { s with sp := _ }) hs _ _ _ _
  case pop => exact State.Inv.setPair (s := s.drop16) hs _ _
  case push | call | restart => exact hs.push16 _
  case callCond =>
    unfold callCond
    split
    · exact hs.push16 _
    · exact hs
  case jumpCond | returnCond =>
    simp only [jumpCond, returnCond]
    split <;> exact hs
  case alu =>
    unfold alu
    dsimp only
    split
    · exact hs.setFlags _
    · exact (hs.setR _ _).setFlags _
  case incReg | decReg | decimalAdjust | shiftReg => exact (hs.setR _ _).setFlags _
  case incHL | decHL | shiftHL => exact (hs.writeByte _ _).setFlags _
  case complementA | rotateA => exact (hs.setR _ _).setF _ _ _ _
  case setCarry | complementCarry | testReg | testHL => exact hs.setF _ _ _ _
  case loadSPFromHL | jump | jumpHL | jumpRelative | jumpRelativeCond | returnFromCall | returnAndEnable | noOperation
      | enterHalt | enterStop | disableInterrupts | enableInterrupts => exact hs

end Sys2Proof.Machine
end

section
/-!
SUPPORT. What a publication can do, said once (spec/60_exceptions.md R411).
-/

namespace Sys2Proof.Machine

/-! ## What no step reads -/

/-- The components that no step reads: the cycle counter, IME, the run mode and the two signals. -/
structure Unread where
  cycles : Nat
  ime : Bool
  runMode : RunMode
  stepSignal : Bool
  continueSignal : Bool

/-- The unread components of a state. -/
def State.unread (s : State) : Unread := ⟨s.cycles, s.ime, s.runMode, s.stepSignal, s.continueSignal⟩

/-- The state with other unread components. -/
def State.withUnread (s : State) (u : Unread) : State :=
  { s with
    cycles := u.cycles, ime := u.ime, runMode := u.runMode, stepSignal := u.stepSignal,
    continueSignal := u.continueSignal }

/-- A change of the counter, of IME and of the run mode, each from its own value; the signals stay. -/
def Unread.map (u : Unread) (cycles : Nat → Nat) (ime : Bool → Bool) (mode : RunMode → RunMode) : Unread :=
  { u with cycles := cycles u.cycles, ime := ime u.ime, runMode := mode u.runMode }

/-- From `s`, what `f` gives depends on no unread component, except that each of these may decide its own next
value. -/
def Blind (f : State → State) (s : State) : Prop :=
  ∃ cycles ime mode, ∀ u, f (s.withUnread u) = (f s).withUnread (u.map cycles ime mode)

theorem Blind.rfl {s : State} : Blind id s := ⟨id, id, id, fun _ => by rfl⟩

theorem Blind.comp {f g : State → State} {s : State} (hf : Blind f s) (hg : Blind g (f s)) :
    Blind (fun x => g (f x)) s := by
  obtain ⟨c, i, m, hf⟩ := hf
  obtain ⟨c', i', m', hg⟩ := hg
  refine ⟨c' ∘ c, i' ∘ i, m' ∘ m, fun u => ?_⟩
  show g (f (s.withUnread u)) = _
  rw [hf, hg]
  rfl

/-! ## What a publication can do -/

/-- What the host side can do during a publication, from `s`: write memory, keeping its canonical form, the run mode
and the bridge, keeping its subscriptions; and it reads nothing that no step reads. -/
structure HostMove (f : State → State) (s : State) : Prop where
  frame : ∃ m r br, f s = { s with mem := m, runMode := r, bridge := br }
  wf : s.mem.wf → (f s).mem.wf
  subscriptions : (f s).bridge.map Bridge.subscriptions = s.bridge.map Bridge.subscriptions
  blind : Blind f s

theorem HostMove.rfl {s : State} : HostMove id s :=
  ⟨⟨_, _, _, by rfl⟩, id, by rfl, Blind.rfl⟩

theorem HostMove.comp {f g : State → State} {s : State} (hf : HostMove f s) (hg : HostMove g (f s)) :
    HostMove (fun x => g (f x)) s := by
  obtain ⟨m, r, br, ef⟩ := hf.frame
  obtain ⟨m', r', br', eg⟩ := hg.frame
  refine ⟨⟨m', r', br', ?_⟩, fun h => hg.wf (hf.wf h), hg.subscriptions.trans hf.subscriptions,
    hf.blind.comp hg.blind⟩
  rw [eg, ef]

/-- Two functions that agree at `s`, whatever its unread components, can do the same from `s`. -/
theorem HostMove.congr {f g : State → State} {s : State} (hg : HostMove g s)
    (e : ∀ u, f (s.withUnread u) = g (s.withUnread u)) : HostMove f s := by
  obtain ⟨frame, wf, subs, c, i, m, blind⟩ := hg
  have es : f s = g s := e s.unread
  exact ⟨es ▸ frame, es ▸ wf, es ▸ subs, c, i, m, fun u => by rw [e u, es, blind u]⟩

theorem hostMove_note (r : HostRecord) (s : State) : HostMove (State.note r) s where
  frame := ⟨_, _, _, rfl⟩
  wf := id
  subscriptions := by simp [State.note, Function.comp_def]
  blind := ⟨id, id, id, fun _ => rfl⟩

theorem hostMove_scriptAction (act : ScriptAction) (s : State) : HostMove (scriptAction act) s := by
  cases act with
  | writeByte a v => exact ⟨⟨_, _, _, rfl⟩, Memory.wf_write a v, rfl, id, id, id, fun _ => rfl⟩
  | breakpoint => exact ⟨⟨_, _, _, rfl⟩, id, rfl, id, id, fun _ => .awaitingDebugStep, fun _ => rfl⟩
  | dumpMemory => exact (hostMove_note (.memory s.mem) s).congr fun _ => rfl
  | cpuState => exact (hostMove_note (.cpuState s.cpuState) s).congr fun _ => rfl
  | raiseError => exact hostMove_note _ s

/-- A callback's body ends at an error, and goes on after any other action (R413). -/
theorem runCallback_cons (act : ScriptAction) (rest : List ScriptAction) (s : State) :
    runCallback (act :: rest) s =
      if act = .raiseError then scriptAction act s else runCallback rest (scriptAction act s) := by
  cases act <;> rfl

theorem hostMove_runCallback (body : List ScriptAction) (s : State) : HostMove (runCallback body) s := by
  induction body generalizing s with
  | nil => exact HostMove.rfl
  | cons act rest ih =>
    by_cases h : act = .raiseError
    · exact (hostMove_scriptAction act s).congr fun u => by rw [runCallback_cons, if_pos h]
    · exact ((hostMove_scriptAction act s).comp (ih _)).congr fun u => by rw [runCallback_cons, if_neg h]

theorem hostMove_invokeCallback (s : State) : HostMove invokeCallback s := by
  cases hb : s.bridge with
  | none => exact HostMove.rfl.congr fun u => by simp [invokeCallback, State.withUnread, hb]
  | some br =>
    have take : HostMove (fun x => { x with bridge := some { br with behaviours := br.behaviours.tail } }) s :=
      ⟨⟨_, _, _, rfl⟩, id, by simp [hb], id, id, id, fun _ => rfl⟩
    exact (take.comp (hostMove_runCallback br.nextBehaviour _)).congr fun u => by
      simp [invokeCallback, State.withUnread, hb]

theorem hostMove_invokeCallbacks (n : Nat) (s : State) : HostMove (invokeCallbacks n) s := by
  induction n generalizing s with
  | zero => exact HostMove.rfl
  | succ n ih => exact (hostMove_invokeCallback s).comp (ih _)

/-- A publication does what its callbacks do, and nothing else (R411). -/
theorem hostMove_fire (e : Event) (s : State) : HostMove (State.fire e) s := by
  cases hb : s.bridge with
  | none => exact HostMove.rfl.congr fun u => by simp [State.fire, State.withUnread, hb]
  | some br =>
    exact ((hostMove_note (.event e) s).comp (hostMove_invokeCallbacks (br.subscriptions.count e.name) _)).congr
      fun u => by simp [State.fire, State.withUnread, hb]

@[simp] theorem State.fire_config (s : State) (e : Event) : (s.fire e).config = s.config := by
  obtain ⟨m, r, br, h⟩ := (hostMove_fire e s).frame
  rw [h]

/-- A publication keeps the invariant (R25, R411). -/
theorem State.Inv.fire {s : State} (hs : s.Inv) (e : Event) : (s.fire e).Inv := by
  have move := hostMove_fire e s
  obtain ⟨m, r, br, h⟩ := move.frame
  exact ⟨move.wf hs.1, by rw [h]; exact hs.2⟩

end Sys2Proof.Machine
end

section
/-!
SUPPORT. What a step can do, said once (spec/40_engine.md R110, R405).
-/

namespace Sys2Proof.Machine

/-! ## The parts of a step -/

@[simp] theorem State.atOpAddr_config (s : State) : s.atOpAddr.config = s.config := by
  unfold State.atOpAddr
  split <;> rfl

theorem State.Inv.atOpAddr {s : State} (hs : s.Inv) : s.atOpAddr.Inv := by
  unfold State.atOpAddr
  split <;> exact hs

/-- The state in which the step's instruction runs: at `op_addr`, with `before_execute` published (R110, R113). -/
def State.ready (s : State) : State := s.atOpAddr.fire (.beforeExecute (debugView s.config s.fetchKey))

@[simp] theorem State.ready_config (s : State) : s.ready.config = s.config := by simp [State.ready]

/-- The instruction read under a present descriptor has that descriptor's key (R98, R114). -/
theorem instrAt_key {s : State} {k : OpKey} (h : s.config.has k = true) : (s.instrAt k).key = k := by
  cases k with
  | ext k =>
    simp only [State.instrAt, decodeKey, h, if_true, Instr.key]
    rw [extInstr_parts]
  | base b =>
    have agrees := baseEntry_agrees b
    simp only [State.instrAt, decodeKey, h, if_true, Instr.key]
    cases he : baseEntry b with
    | absent => simp [Config.has, he, Entry.present] at h
    | op i =>
      rw [he] at agrees
      exact congrArg Prod.fst agrees
    | imm8 f =>
      rw [he] at agrees
      exact congrArg Prod.fst (agrees _)
    | imm16 f =>
      rw [he] at agrees
      exact congrArg Prod.fst (agrees _)

/-- Every instruction runs an action, or publishes a stall (R112). -/
theorem exec_action_or_stall (i : Instr) :
    RunsAction i ∨ ∃ key, ∀ s, exec i s = .next (s.fire (.unimplementedOpcode key)) := by
  obtain h | ⟨key, rfl | rfl⟩ := exec_cases i
  · exact .inl h
  · exact .inr ⟨key, fun _ => rfl⟩
  · exact .inr ⟨key, fun _ => rfl⟩

/-! ## The step -/

/-- A halted step does nothing (R117). -/
theorem step_halted {s : State} (h : s.halted = true) : step s = .next s := by simp [step, h]

/-- What is read at a key without a descriptor stalls (R95, R112). -/
theorem exec_instrAt_absent {s : State} {k : OpKey} (hk : s.config.has k = false) :
    exec (s.instrAt k) s = .next (s.fire (.unimplementedOpcode k.byte)) := by
  cases k with
  | base b =>
    have hi : s.instrAt (.base b) = .illegal b := by simp [State.instrAt, decodeKey, hk]
    rw [hi]
    rfl
  | ext k =>
    have hi : s.instrAt (.ext k) = .prefixCb k := by simp [State.instrAt, decodeKey, hk]
    rw [hi]
    rfl

/-- A step that finds no descriptor stalls at `op_addr` (R112). -/
theorem step_stalled {s : State} (h : s.halted = false) (hk : s.config.has s.fetchKey = false) :
    step s = .next (s.atOpAddr.fire (.unimplementedOpcode s.fetchKey.byte)) := by
  simp only [step, h, stepRunning, hk]
  exact exec_instrAt_absent (by rwa [State.atOpAddr_config])

/-- A step that finds a descriptor runs the instruction at the state that is ready for it, and publishes
`after_execute` (R110, R113). -/
theorem step_executed {s : State} (h : s.halted = false) (hk : s.config.has s.fetchKey = true) :
    step s = fireAfter (debugView s.config s.fetchKey) (exec (s.ready.instrAt s.fetchKey) s.ready) := by
  simp [step, h, stepRunning, hk, executeKey, State.ready]

/-- What a step can do (R405): nothing, a stall, or one instruction between its two publications. -/
theorem step_cases {s t : State} (h : step s = .next t) :
    (s.report = .halted ∧ t = s) ∨
    (s.report = .stalled s.fetchKey.byte ∧ t = s.atOpAddr.fire (.unimplementedOpcode s.fetchKey.byte)) ∨
    (s.report = .executed s.fetchKey ∧ (s.ready.instrAt s.fetchKey).key = s.fetchKey ∧
      ∃ u, exec (s.ready.instrAt s.fetchKey) s.ready = .next u ∧
        t = u.fire (.afterExecute (debugView s.config s.fetchKey))) := by
  cases hh : s.halted with
  | true =>
    rw [step_halted hh] at h
    cases h
    exact .inl ⟨by simp [State.report, hh], rfl⟩
  | false =>
    cases hk : s.config.has s.fetchKey with
    | false =>
      rw [step_stalled hh hk] at h
      cases h
      exact .inr (.inl ⟨by simp [State.report, hh, hk], rfl⟩)
    | true =>
      rw [step_executed hh hk] at h
      refine .inr (.inr ⟨by simp [State.report, hh, hk], instrAt_key (by rwa [State.ready_config]), ?_⟩)
      cases he : exec (s.ready.instrAt s.fetchKey) s.ready with
      | next u =>
        rw [he] at h
        cases h
        exact ⟨u, rfl, rfl⟩
      | fault r => cases r
      | refused r =>
        rw [he] at h
        cases h

end Sys2Proof.Machine
end

section
/-!
SUPPORT. The invariant through every instruction and every step (spec/10_state.md R25).
-/

namespace Sys2Proof.Machine

/-- Every instruction keeps the invariant. -/
theorem exec_inv {i : Instr} {s t : State} (hs : s.Inv) (h : exec i s = .next t) : t.Inv := by
  obtain ⟨act, ha, hx⟩ | ⟨key, hx⟩ := exec_action_or_stall i
  · rw [hx] at h
    cases h
    exact (action_inv ha hs).retire i.key
  · rw [hx] at h
    cases h
    exact hs.fire _

/-- Settles O11: the publications, the PC move past 0xCB, and the instruction each keep the invariant. -/
theorem stepKeepsInvariant : Obligations.StepKeepsInvariant := by
  intro s t hs h
  obtain ⟨-, rfl⟩ | ⟨-, rfl⟩ | ⟨-, -, u, hu, rfl⟩ := step_cases h
  · exact hs
  · exact hs.atOpAddr.fire _
  · exact (exec_inv (hs.atOpAddr.fire _) hu).fire _

end Sys2Proof.Machine
end

section
/-!
SUPPORT. What a step changes outside the registers and memory (spec/10_state.md R30, R31, R34).
-/

namespace Sys2Proof.Machine

/-! ## The control components -/

/-- The components that few instructions or none may change: the launch parameters, the signals, the subscriptions,
`halted` and IME. -/
structure Control where
  config : Config
  stepSignal : Bool
  continueSignal : Bool
  subscriptions : Option (List EventName)
  halted : Bool
  ime : Bool

/-- The control components in a rest. -/
def Rest.control (u : Rest) : Control :=
  ⟨u.config, u.stepSignal, u.continueSignal, u.bridge.map Bridge.subscriptions, u.halted, u.ime⟩

/-- The control components of a state. -/
def State.control (s : State) : Control := s.rest.control

@[simp] theorem State.control_fire (s : State) (e : Event) : (s.fire e).control = s.control := by
  have subs := (hostMove_fire e s).subscriptions
  obtain ⟨m, r, br, h⟩ := (hostMove_fire e s).frame
  simp only [h] at subs
  simp [h, State.control, State.rest, Rest.control, subs]

@[simp] theorem State.control_atOpAddr (s : State) : s.atOpAddr.control = s.control := by
  unfold State.atOpAddr
  split <;> rfl

@[simp] theorem State.control_ready (s : State) : s.ready.control = s.control := by simp [State.ready]

@[simp] theorem State.control_retire (s : State) (k : OpKey) : (s.retire k).control = s.control := by
  simp [State.control, State.rest, Rest.control]

/-! ## The named instructions -/

/-- Of the control components only `halted` and IME change: `halted` becomes set where HALT or STOP ran, IME changes
where DI, EI or RETI ran. -/
structure NamedChange (ran : OpKey → Prop) (c c' : Control) : Prop where
  same : c' = { c with halted := c'.halted, ime := c'.ime }
  halted : c'.halted ≠ c.halted → c'.halted = true ∧ (ran (.base 0x76) ∨ ran (.base 0x10))
  ime : c'.ime ≠ c.ime → ran (.base 0xF3) ∨ ran (.base 0xFB) ∨ ran (.base 0xD9)

theorem NamedChange.rfl {ran : OpKey → Prop} {c : Control} : NamedChange ran c c :=
  ⟨by rfl, fun h => absurd (by rfl) h, fun h => absurd (by rfl) h⟩

/-- What an action can do to the rest is a change by a named instruction. -/
theorem RestChange.named {k : OpKey} {φ : Rest → Rest} (h : RestChange k φ) {ran : OpKey → Prop} (hk : ran k)
    (u : Rest) : NamedChange ran u.control (φ u).control := by
  have here {j : OpKey} (e : k = j) : ran j := e ▸ hk
  cases h with
  | keep => exact NamedChange.rfl
  | halt named =>
    refine ⟨rfl, fun _ => ⟨rfl, ?_⟩, fun h => absurd rfl h⟩
    exact named.imp here here
  | setIme b named =>
    refine ⟨rfl, fun h => absurd rfl h, fun _ => ?_⟩
    exact named.imp here (Or.imp here here)

/-- An instruction changes the control components only as the named instructions do. -/
theorem exec_named {i : Instr} {s t : State} (h : exec i s = .next t) {ran : OpKey → Prop} (hk : ran i.key) :
    NamedChange ran s.control t.control := by
  obtain ⟨act, ha, hx⟩ | ⟨key, hx⟩ := exec_action_or_stall i
  · rw [hx] at h
    cases h
    obtain ⟨φ, hφ, hact⟩ := action_withRest ha
    have hrest : (act s).rest = φ s.rest := congrArg State.rest (hact s s.rest)
    rw [State.control_retire, State.control, State.control, hrest]
    exact hφ.named hk s.rest
  · rw [hx] at h
    cases h
    rw [State.control_fire]
    exact NamedChange.rfl

/-- A step changes the control components only as the descriptor it executed does. -/
theorem step_named {s t : State} (h : step s = .next t) :
    NamedChange (fun k => s.report = .executed k) s.control t.control := by
  obtain ⟨-, rfl⟩ | ⟨-, rfl⟩ | ⟨hr, hkey, u, hu, rfl⟩ := step_cases h
  · exact NamedChange.rfl
  · rw [State.control_fire, State.control_atOpAddr]
    exact NamedChange.rfl
  · rw [State.control_fire, ← State.control_ready s]
    exact exec_named hu (by rw [hkey, hr])

/-- Settles O13: a publication changes no control component, and an action only as a named instruction does. -/
theorem onlyNamedInstructionsChangeControl : Obligations.OnlyNamedInstructionsChangeControl := by
  intro s t h
  obtain ⟨same, halted, ime⟩ := step_named h
  exact ⟨congrArg Control.config same, congrArg Control.stepSignal same, congrArg Control.continueSignal same,
    congrArg Control.subscriptions same, halted, ime⟩

end Sys2Proof.Machine
end

section
/-!
SUPPORT. What no step reads (spec/10_state.md R29, R30, R32; spec/60_exceptions.md R412).
-/

namespace Sys2Proof.Machine

theorem blind_atOpAddr (s : State) : Blind State.atOpAddr s := by
  refine ⟨id, id, id, fun u => ?_⟩
  show (if s.readByte s.pc = 0xCB then _ else _) = (if s.readByte s.pc = 0xCB then _ else _ : State).withUnread u
  split <;> rfl

theorem blind_retire (k : OpKey) (s : State) : Blind (State.retire k) s := by
  refine ⟨(· + cost s.config k), id, id, fun u => ?_⟩
  unfold State.retire State.advance
  split <;> rfl

theorem blind_ready (s : State) : Blind State.ready s :=
  (blind_atOpAddr s).comp (hostMove_fire (.beforeExecute (debugView s.config s.fetchKey)) s.atOpAddr).blind

/-- No action reads an unread component: it leaves the rest as a function of the rest, which is blind too. -/
theorem blind_action {k : OpKey} {act : State → State} (h : IsAction k act) (s : State) : Blind act s := by
  obtain ⟨φ, hφ, hact⟩ := action_withRest h
  have blind : ∃ ime : Bool → Bool, ∀ u, (act s).withRest (φ (s.withUnread u).rest) =
      ((act s).withRest (φ s.rest)).withUnread (u.map id ime id) := by
    cases hφ with
    | keep | halt _ => exact ⟨id, fun _ => rfl⟩
    | setIme b _ => exact ⟨fun _ => b, fun _ => rfl⟩
  obtain ⟨ime, hime⟩ := blind
  refine ⟨id, ime, id, fun u => ?_⟩
  calc
    act (s.withUnread u) = (act s).withRest (φ (s.withUnread u).rest) := hact s (s.withUnread u).rest
    _ = ((act s).withRest (φ s.rest)).withUnread (u.map id ime id) := hime u
    _ = (act s).withUnread (u.map id ime id) := congrArg (State.withUnread · _) (hact s s.rest).symm

/-- No instruction reads an unread component. -/
theorem exec_blind (i : Instr) : ∃ f : State → State, (∀ s, exec i s = .next (f s)) ∧ ∀ s, Blind f s := by
  obtain ⟨act, ha, hx⟩ | ⟨key, hx⟩ := exec_action_or_stall i
  · exact ⟨_, hx, fun s => (blind_action ha s).comp (blind_retire i.key (act s))⟩
  · exact ⟨_, hx, fun s => (hostMove_fire _ s).blind⟩

/-- No step reads an unread component. -/
theorem step_blind (s : State) :
    ∃ f : State → State, (∀ u, step (s.withUnread u) = .next (f (s.withUnread u))) ∧ Blind f s := by
  cases hh : s.halted with
  | true => exact ⟨id, fun u => step_halted hh, Blind.rfl⟩
  | false =>
    cases hk : s.config.has s.fetchKey with
    | false =>
      exact ⟨fun x => x.atOpAddr.fire (.unimplementedOpcode s.fetchKey.byte),
        fun u => step_stalled (s := s.withUnread u) hh hk, (blind_atOpAddr s).comp (hostMove_fire _ _).blind⟩
    | true =>
      obtain ⟨f, hf, blind⟩ := exec_blind (s.ready.instrAt s.fetchKey)
      refine ⟨fun x => (f x.ready).fire (.afterExecute (debugView s.config s.fetchKey)), fun u => ?_,
        (blind_ready s).comp ((blind _).comp (hostMove_fire _ _).blind)⟩
      have hi : (s.withUnread u).ready.instrAt s.fetchKey = s.ready.instrAt s.fetchKey := by
        obtain ⟨c, i, m, hready⟩ := blind_ready s
        rw [hready u]
        rfl
      calc
        step (s.withUnread u) = fireAfter (debugView s.config s.fetchKey)
            (exec ((s.withUnread u).ready.instrAt s.fetchKey) (s.withUnread u).ready) :=
          step_executed (s := s.withUnread u) hh hk
        _ = _ := by rw [hi, hf, fireAfter]

/-- A step from `s` with other unread components gives what the step from `s` gives, each of these components apart,
which depends on its own value alone. -/
theorem step_withUnread {s t : State} (h : step s = .next t) :
    ∃ cycles ime mode, t.unread = s.unread.map cycles ime mode ∧
      ∀ u, step (s.withUnread u) = .next (t.withUnread (u.map cycles ime mode)) := by
  obtain ⟨f, hf, c, i, m, blind⟩ := step_blind s
  have ht : f s = t := by
    have e := (hf s.unread).symm.trans h
    cases e
    rfl
  refine ⟨c, i, m, ?_, fun u => by rw [hf, blind, ht]⟩
  have e : f s = (f s).withUnread (s.unread.map c i m) := blind s.unread
  rw [← ht]
  exact congrArg State.unread e

/-- Settles O14: the run mode a step leaves depends on no other unread component. -/
theorem imeAndCyclesAreNotRead : Obligations.ImeAndCyclesAreNotRead := by
  intro s t b n h
  obtain ⟨c, i, m, ht, hstep⟩ := step_withUnread h
  refine ⟨i b, c n, (hstep { s.unread with ime := b, cycles := n }).trans ?_⟩
  have hmode : t.runMode = m s.runMode := congrArg Unread.runMode ht
  have hnext : t.stepSignal = s.stepSignal := congrArg Unread.stepSignal ht
  have hcont : t.continueSignal = s.continueSignal := congrArg Unread.continueSignal ht
  rw [hmode, hnext, hcont]
  rfl

/-- Settles O15: the cycle counter and IME a step leaves depend on no other unread component. -/
theorem runModeIsNotRead : Obligations.RunModeIsNotRead := by
  intro s t mode x y h
  obtain ⟨c, i, m, ht, hstep⟩ := step_withUnread h
  refine ⟨m mode, (hstep ⟨s.cycles, s.ime, mode, x, y⟩).trans ?_⟩
  have hcycles : t.cycles = c s.cycles := congrArg Unread.cycles ht
  have hime : t.ime = i s.ime := congrArg Unread.ime ht
  rw [hcycles, hime]
  rfl

end Sys2Proof.Machine
end

section
/-!
SUPPORT. The register pairs (spec/10_state.md R21, R22, R25).
-/

namespace Sys2Proof.Machine

/-- A byte whose bits 3 to 0 are 0 is kept by the mask of F (R25). -/
theorem and_F0_of_low_eq_zero {v : Byte} (h : v &&& 0x0F = 0) : v &&& 0xF0 = v := by
  calc
    v &&& 0xF0 = 0#8 ||| v &&& 0xF0 := BitVec.zero_or.symm
    _ = v &&& 0x0F ||| v &&& 0xF0 := by rw [h]; rfl
    _ = v &&& BitVec.allOnes 8 := BitVec.and_or_distrib_left.symm
    _ = v := BitVec.and_allOnes

/-- AF with the low byte masked as F is (R25). -/
theorem joinBytes_and_F0 (w : Word) : joinBytes (hiByte w) (loByte w &&& 0xF0) = w &&& 0xFFF0 := by
  calc
    joinBytes (hiByte w) (loByte w &&& 0xF0) = joinBytes (hiByte w &&& BitVec.allOnes 8) (loByte w &&& 0xF0) := by
      rw [BitVec.and_allOnes]
    _ = joinBytes (hiByte w) (loByte w) &&& joinBytes (BitVec.allOnes 8) 0xF0 := BitVec.and_append.symm
    _ = w &&& 0xFFF0 := by rw [joinBytes_hiByte_loByte]; rfl

/-- A pair that was written reads as the word, for AF as the word without bits 3 to 0 (R22, R25). -/
theorem State.getPair_setPair (s : State) (p : Pair) (w : Word) :
    (s.setPair p w).getPair p = if p = .af then w &&& 0xFFF0 else w := by
  cases p with
  | af =>
    show joinBytes (hiByte w) (loByte w &&& 0xF0 &&& 0xF0) = w &&& 0xFFF0
    rw [BitVec.and_assoc, BitVec.and_self, joinBytes_and_F0]
  | bc | de | hl => exact joinBytes_hiByte_loByte w

/-- Writing back what a pair reads changes nothing, for AF where F[3:0] is 0 (R22). -/
theorem State.setPair_getPair (s : State) (p : Pair) (h : p = .af → s.f &&& 0x0F = 0) :
    s.setPair p (s.getPair p) = s := by
  cases p with
  | af =>
    have hf : s.readF &&& 0xF0 = s.f := by
      rw [State.readF, BitVec.and_assoc, BitVec.and_self, and_F0_of_low_eq_zero (h rfl)]
    simp only [State.setPair, State.getPair, State.writeF, hiByte_joinBytes, loByte_joinBytes, hf]
  | bc | de | hl => simp [State.setPair, State.getPair]

/-- Settles O19: the two round-trip laws. -/
theorem pairRoundTrip : Obligations.PairRoundTrip :=
  fun s p w => ⟨State.getPair_setPair s p w, State.setPair_getPair s p⟩

end Sys2Proof.Machine
end

section
/-!
SUPPORT. Words in memory (spec/20_memory.md R52, R53, R54; spec/40_engine.md R130).
-/

namespace Sys2Proof.Machine

/-- A byte read after a word is written (R53). -/
theorem State.readByte_writeWord (s : State) (a w x : Word) :
    (s.writeWord a w).readByte x = if x = a + 1 then hiByte w else if x = a then loByte w else s.readByte x := by
  rw [State.writeWord, State.readByte_writeByte, State.readByte_writeByte]

/-- The low byte of a word written: the next address is another one, also at 0xFFFF (R54). -/
theorem State.readByte_writeWord_low (s : State) (a w : Word) : (s.writeWord a w).readByte a = loByte w := by
  have hne : a ≠ a + 1 := by bv_omega
  rw [State.readByte_writeWord, if_neg hne, if_pos rfl]

/-- The high byte of a word written. -/
theorem State.readByte_writeWord_high (s : State) (a w : Word) : (s.writeWord a w).readByte (a + 1) = hiByte w := by
  rw [State.readByte_writeWord, if_pos rfl]

/-- A word written changes its two bytes alone. -/
theorem sameMem_writeWord (s : State) (a w : Word) : SameMem [a, a + 1] s (s.writeWord a w) := by
  intro x hx
  simp only [List.mem_cons, List.not_mem_nil, or_false, not_or] at hx
  rw [State.readByte_writeWord, if_neg hx.2, if_neg hx.1]

/-- A state whose bytes at an address and at the next one are those of a word reads that word (R52). -/
theorem State.readWord_eq {s : State} {a w : Word} (hlo : s.readByte a = loByte w)
    (hhi : s.readByte (a + 1) = hiByte w) : s.readWord a = w := by
  rw [State.readWord, hlo, hhi, joinBytes_hiByte_loByte]

/-- A word written is read back. -/
theorem State.readWord_writeWord (s : State) (a w : Word) : (s.writeWord a w).readWord a = w :=
  State.readWord_eq (s.readByte_writeWord_low a w) (s.readByte_writeWord_high a w)

/-- A word pushed is at SP (R130). -/
theorem State.readWord_push16 (s : State) (w : Word) : (s.push16 w).readWord (s.push16 w).sp = w := by
  rw [State.push16_sp]
  have hnext : s.sp - 2 + 1 = s.sp - 1 := by bv_omega
  have hne : s.sp - 1 ≠ s.sp - 2 := by bv_omega
  apply State.readWord_eq
  · rw [State.readByte_push16, if_pos rfl]
  · rw [hnext, State.readByte_push16, if_neg hne, if_pos rfl]

/-- Settles O18: the two bytes of a word lie at different addresses, so the second store leaves the first one. -/
theorem wordsAreLittleEndianAndWrap : Obligations.WordsAreLittleEndianAndWrap :=
  fun s a w => ⟨rfl, s.readWord_writeWord a w, s.readByte_writeWord_low a w, s.readByte_writeWord_high a w,
    sameMem_writeWord s a w, rfl, s.readWord_push16 w⟩

end Sys2Proof.Machine
end

section
/-!
SUPPORT. What a startup leaves (spec/20_memory.md R61, R67, R68; spec/70_reset_and_hazards.md R450 to R452).
-/

namespace Sys2Proof.Machine

/-! ## Memory at start -/

/-- A byte read after several bytes are written, at most one to each address: the one written there, or what the byte
was before (R53, R54). -/
theorem Memory.read_writeBytes (m : Memory) (a x : Word) {bytes : List Byte} (h : bytes.length ≤ 0x10000) :
    (m.writeBytes a bytes).read x = bytes[(x - a).toNat]?.getD (m.read x) := by
  induction bytes generalizing m a with
  | nil => rfl
  | cons v bytes ih =>
    have hlen : bytes.length + 1 ≤ 0x10000 := h
    rw [Memory.writeBytes, ih (m.write a v) (a + 1) (by omega), Memory.read_write]
    by_cases hx : x = a
    · subst hx
      have hlast : (x - (x + 1)).toNat = 0xFFFF := by bv_omega
      have hfirst : (x - x).toNat = 0 := by bv_omega
      rw [hlast, hfirst, List.getElem?_eq_none (by omega), if_pos rfl]
      rfl
    · have hstep : (x - a).toNat = (x - (a + 1)).toNat + 1 := by bv_omega
      rw [hstep, List.getElem?_cons_succ, if_neg hx]

/-- A byte of the memory that holds `INIT_MEM` (R67). -/
theorem initialMemory_read (bytes : List Byte) (x : Word) :
    (initialMemory bytes).read x = bytes.getD x.toNat unlistedByte := by
  rw [initialMemory, Memory.read_writeBytes [] 0 x (List.length_take_le _ _), sub_zero,
    List.getElem?_take_of_lt x.isLt, List.getD_eq_getElem?_getD]
  rfl

/-- A byte of memory after an image is written from address 0 (R68). -/
theorem Memory.read_writeBytes_zero (m : Memory) (x : Word) {image : List Byte} (h : image.length ≤ 256) :
    (m.writeBytes 0 image).read x = if x.toNat < image.length then image.getD x.toNat 0 else m.read x := by
  rw [Memory.read_writeBytes m 0 x (by omega), sub_zero, List.getD_eq_getElem?_getD]
  by_cases hx : x.toNat < image.length
  · rw [if_pos hx, List.getElem?_eq_getElem hx]
    rfl
  · rw [if_neg hx, List.getElem?_eq_none (by omega)]
    rfl

/-! ## The steps of a startup that succeed -/

/-- An image is loaded where it can be read and has at most 256 bytes (R68). -/
theorem loadImage_ok {file : ImageFile} {m m' : Memory} (h : loadImage file m = .ok m') :
    ∃ image, file = .bytes image ∧ image.length ≤ 256 ∧ m' = m.writeBytes 0 image := by
  cases file with
  | unreadable => cases h
  | bytes image =>
    by_cases hlen : image.length > 256
    · rw [loadImage, if_pos hlen] at h
      cases h
    · rw [loadImage, if_neg hlen] at h
      cases h
      exact ⟨image, rfl, Nat.le_of_not_lt hlen, rfl⟩

/-- What step 3 of R450 can do: nothing, with PC at `RESET_PC`; or a boot image is written from address 0, with PC
at 0. -/
theorem bootMemory_cases {boot : Option ImageFile} {resetPc pc : Word} {m m' : Memory}
    (h : bootMemory boot resetPc m = .ok (m', pc)) :
    (boot = none ∧ m' = m ∧ pc = resetPc) ∨
    ∃ image, boot = some (.bytes image) ∧ image.length ≤ 256 ∧ m' = m.writeBytes 0 image ∧ pc = 0 := by
  cases boot with
  | none =>
    cases h
    exact .inl ⟨rfl, rfl, rfl⟩
  | some file =>
    cases hl : loadImage file m with
    | error e =>
      rw [bootMemory, hl] at h
      cases h
    | ok m1 =>
      rw [bootMemory, hl] at h
      cases h
      obtain ⟨image, rfl, hlen, rfl⟩ := loadImage_ok hl
      exact .inr ⟨image, rfl, hlen, rfl, rfl⟩

/-- What step 4 of R450 can do: nothing, with no bridge attached; or the load of a script runs, and a bridge is
attached. -/
theorem attachDebug_cases {debug : Option DebugScript} {m m' : Memory} {bridge : Option Bridge}
    (h : attachDebug debug m = .ok (m', bridge)) :
    (debug = none ∧ m' = m ∧ bridge = none) ∨
    ∃ actions behaviours, debug = some (.loaded actions behaviours) ∧
      m' = (runLoad actions m ⟨[], behaviours, []⟩).1 ∧
      bridge = some (runLoad actions m ⟨[], behaviours, []⟩).2 := by
  cases debug with
  | none =>
    cases h
    exact .inl ⟨rfl, rfl, rfl⟩
  | some script =>
    cases script with
    | loadFailure => cases h
    | loaded actions behaviours =>
      cases h
      exact .inr ⟨actions, behaviours, rfl, rfl, rfl⟩

/-- A startup that succeeds runs both steps and leaves the start state (R450). -/
theorem startup_ok {p : Launch} {s : State} (h : startup p = .ok s) :
    ∃ m pc m' bridge, bootMemory p.boot p.resetPc (initialMemory p.initMem) = .ok (m, pc) ∧
      attachDebug p.debug m = .ok (m', bridge) ∧ s = startState p m' pc bridge := by
  unfold startup at h
  split at h
  · cases h
  · split at h
    · cases h
    · rename_i m pc hboot
      split at h
      · cases h
      · rename_i m' bridge hdebug
        cases h
        exact ⟨m, pc, m', bridge, hboot, hdebug, rfl⟩

/-! ## What the steps leave -/

/-- PC is 0 with a boot image and `RESET_PC` without (R450). -/
theorem bootMemory_pc {boot : Option ImageFile} {resetPc pc : Word} {m m' : Memory}
    (h : bootMemory boot resetPc m = .ok (m', pc)) : pc = if boot.isSome then 0 else resetPc := by
  obtain ⟨rfl, -, rfl⟩ | ⟨image, rfl, -, -, rfl⟩ := bootMemory_cases h <;> rfl

/-- A boot image keeps the canonical form of memory. -/
theorem bootMemory_wf {boot : Option ImageFile} {resetPc pc : Word} {m m' : Memory}
    (h : bootMemory boot resetPc m = .ok (m', pc)) (hm : m.wf) : m'.wf := by
  obtain ⟨-, rfl, -⟩ | ⟨image, -, -, rfl, -⟩ := bootMemory_cases h
  · exact hm
  · exact Memory.wf_writeBytes 0 image hm

/-- A script's load keeps the canonical form of memory. -/
theorem attachDebug_wf {debug : Option DebugScript} {m m' : Memory} {bridge : Option Bridge}
    (h : attachDebug debug m = .ok (m', bridge)) (hm : m.wf) : m'.wf := by
  obtain ⟨-, rfl, -⟩ | ⟨actions, behaviours, -, rfl, -⟩ := attachDebug_cases h
  · exact hm
  · exact runLoad_wf actions m _ hm

/-- A byte of memory after a script's load: the last byte the load wrote there, or what the byte was before (R61). -/
theorem attachDebug_read {debug : Option DebugScript} {m m' : Memory} {bridge : Option Bridge}
    (h : attachDebug debug m = .ok (m', bridge)) (x : Word) :
    m'.read x = ((DebugScript.loadWrites debug).reverse.lookup x).getD (m.read x) := by
  obtain ⟨rfl, rfl, -⟩ | ⟨actions, behaviours, rfl, rfl, -⟩ := attachDebug_cases h
  · rfl
  · exact runLoad_read actions behaviours m _ x

/-- A bridge is attached just where a script is given, with the subscriptions of its load (R410, R452). -/
theorem attachDebug_subscriptions {debug : Option DebugScript} {m m' : Memory} {bridge : Option Bridge}
    (h : attachDebug debug m = .ok (m', bridge)) :
    bridge.map Bridge.subscriptions = Option.map DebugScript.loadSubscriptions debug := by
  obtain ⟨rfl, -, rfl⟩ | ⟨actions, behaviours, rfl, -, rfl⟩ := attachDebug_cases h
  · rfl
  · exact congrArg some (runLoad_subscriptions actions behaviours m _).1

/-- The start state has the flags of `RESET_REGS` (R36, R123). -/
theorem startState_flagsAre (p : Launch) (m : Memory) (pc : Word) (bridge : Option Bridge) :
    FlagsAre (startState p m pc bridge) p.resetRegs.z p.resetRegs.n p.resetRegs.hf p.resetRegs.cf := by
  refine (State.setF_flagsAre (startState p m pc bridge) _ _ _ _).of_f ?_
  exact (and_F0_of_low_eq_zero (packFlags_low _ _ _ _)).symm

/-- The start state meets the invariant where its memory has the canonical form. -/
theorem startState_inv (p : Launch) {m : Memory} (pc : Word) (bridge : Option Bridge) (hm : m.wf) :
    (startState p m pc bridge).Inv :=
  ⟨hm, packFlags_low _ _ _ _⟩

/-- A boot image of more than 256 bytes aborts a startup whose ROM can be read (R68, R451). -/
theorem startup_long_boot {p : Launch} {rom image : List Byte} (hrom : p.rom = some (.bytes rom))
    (hboot : p.boot = some (.bytes image)) (hlen : 256 < image.length) : startup p = .error .validationError := by
  have hload (m : Memory) : loadImage (.bytes image) m = .error .validationError := if_pos hlen
  simp only [startup, romReadable, bootMemory, hrom, hboot, hload]

/-- Settles O20: the boot image and then the script's load are laid over `INIT_MEM`, and the start state takes the rest
from the launch. -/
theorem startupLeavesLaunchInputs : Obligations.StartupLeavesLaunchInputs := by
  refine ⟨fun p s h => ?_, fun p rom image => startup_long_boot⟩
  obtain ⟨m, pc, m', bridge, hboot, hdebug, rfl⟩ := startup_ok h
  have hwf : m.wf := bootMemory_wf hboot (Memory.wf_writeBytes 0 _ Memory.wf_nil)
  have hinv : (startState p m' pc bridge).Inv := startState_inv p pc bridge (attachDebug_wf hdebug hwf)
  refine ⟨rfl, rfl, rfl, rfl, rfl, rfl, rfl, rfl, startState_flagsAre p m' pc bridge, bootMemory_pc hboot, rfl, rfl,
    rfl, rfl, rfl, hinv, attachDebug_subscriptions hdebug, fun x => ?_⟩
  -- Below the script's writes each byte is the boot image's or that of `INIT_MEM`.
  refine (attachDebug_read hdebug x).trans (congrArg (Option.getD _) ?_)
  obtain ⟨hb, rfl, -⟩ | ⟨image, hb, hlen, rfl, -⟩ := bootMemory_cases hboot
  · rw [hb]
    exact initialMemory_read p.initMem x
  · rw [hb, Memory.read_writeBytes_zero _ x hlen, initialMemory_read]

end Sys2Proof.Machine
end

section
/-!
SUPPORT. What the decoder reads, said once: the opcode bytes of a key other than 0xCB, and as many operand
bytes as the key's format has (spec/30_encoding.md R80, R92 to R96).
-/

namespace Sys2Proof

/-! ## The operand bytes of a lookup -/

/-- A format has at most two operand bytes (R80). -/
theorem Entry.operandCount_le_two (e : Entry) : e.operandCount ≤ 2 := by
  cases e <;> simp [Entry.operandCount]

/-- How many operand bytes the decoder reads after the opcode bytes of a key: none where there is no descriptor. -/
def Config.operandCount (c : Config) : OpKey → Nat
  | .base b => if c.has (.base b) then (baseEntry b).operandCount else 0
  | .ext _ => 0

theorem Config.operandCount_le_two (c : Config) (k : OpKey) : c.operandCount k ≤ 2 := by
  cases k with
  | ext k => exact Nat.zero_le 2
  | base b =>
    simp only [Config.operandCount]
    split
    · exact Entry.operandCount_le_two _
    · exact Nat.zero_le 2

/-- The encoder puts what a lookup selects at the key that was looked up, with the operand bytes of its format. -/
theorem parts_decodeKey (c : Config) (b1 b2 : Byte) (k : OpKey) :
    (decodeKey c b1 b2 k).parts = (k, [b1, b2].take (c.operandCount k)) := by
  cases k with
  | ext k =>
    simp only [decodeKey]
    split
    · exact extInstr_parts k
    · rfl
  | base b =>
    simp only [decodeKey, Config.operandCount]
    split
    · have agrees := baseEntry_agrees b
      cases he : baseEntry b <;> rw [he] at agrees
      case absent => rfl
      case op i => exact agrees
      case imm8 f => exact agrees b1
      case imm16 f =>
        have parts := agrees (joinBytes b2 b1)
        rwa [loByte_joinBytes, hiByte_joinBytes] at parts
    · rfl

theorem key_decodeKey (c : Config) (b1 b2 : Byte) (k : OpKey) : (decodeKey c b1 b2 k).key = k :=
  congrArg Prod.fst (parts_decodeKey c b1 b2 k)

theorem operands_decodeKey (c : Config) (b1 b2 : Byte) (k : OpKey) :
    (decodeKey c b1 b2 k).parts.2 = [b1, b2].take (c.operandCount k) :=
  congrArg Prod.snd (parts_decodeKey c b1 b2 k)

theorem encode_decodeKey (c : Config) (b1 b2 : Byte) (k : OpKey) :
    encode (decodeKey c b1 b2 k) = k.opcodeBytes ++ [b1, b2].take (c.operandCount k) := by
  rw [encode, key_decodeKey, operands_decodeKey]

/-! ## The decoder, both ways -/

/-- The decoder reads the opcode bytes of a key and its operand bytes, and leaves the rest. -/
theorem decode_opcodeBytes (c : Config) {k : OpKey} (hk : k ≠ .base 0xCB) (b1 b2 : Byte) (rest : List Byte) :
    decode c (k.opcodeBytes ++ [b1, b2].take (c.operandCount k) ++ rest) = .ok (decodeKey c b1 b2 k, rest) := by
  cases k with
  | ext k => rfl
  | base b =>
    have hb : b ≠ 0xCB := fun h => hk (congrArg OpKey.base h)
    cases h : c.has (.base b) with
    | false =>
      simp only [OpKey.opcodeBytes, Config.operandCount, decodeKey, h]
      exact decode_absent hb h
    | true =>
      simp only [OpKey.opcodeBytes, Config.operandCount, decodeKey, h, if_true]
      cases he : baseEntry b with
      | absent => simp [Config.has, he, Entry.present] at h
      | op i => exact decode_op hb he h
      | imm8 f => exact decode_imm8 hb he h
      | imm16 f => exact decode_imm16 hb he h

/-- The first two bytes of a list, where it has them. -/
theorem take_getD_zero_getD_one {n : Nat} {bytes : List Byte} (h2 : n ≤ 2) (hn : n ≤ bytes.length) :
    [bytes.getD 0 0, bytes.getD 1 0].take n = bytes.take n := by
  match n, bytes with
  | 0, _ => rfl
  | 1, _ :: _ => rfl
  | 2, _ :: _ :: _ => rfl

/-- The decoder on a list whose first byte is not 0xCB. -/
theorem decode_base {c : Config} {b : Byte} (hb : b ≠ 0xCB) (tail : List Byte) :
    decode c (b :: tail) =
      if tail.length < c.operandCount (.base b) then .error .noOperandBytes
      else .ok (decodeKey c (tail.getD 0 0) (tail.getD 1 0) (.base b), tail.drop (c.operandCount (.base b))) :=
  if_neg hb

/-- Whatever the decoder reads is the outcome of a lookup at a key other than 0xCB. -/
theorem decode_ok {c : Config} {bytes rest : List Byte} {i : Instr} (h : decode c bytes = .ok (i, rest)) :
    ∃ (k : OpKey) (b1 b2 : Byte), k ≠ .base 0xCB ∧ i = decodeKey c b1 b2 k ∧
      k.opcodeBytes ++ [b1, b2].take (c.operandCount k) ++ rest = bytes := by
  cases bytes with
  | nil => cases h
  | cons b tail =>
    by_cases hb : b = 0xCB
    · subst hb
      cases tail with
      | nil => cases h
      | cons k tail =>
        cases h
        exact ⟨.ext k, 0, 0, nofun, rfl, rfl⟩
    · rw [decode_base hb] at h
      split at h
      · cases h
      · next hlen =>
        cases h
        refine ⟨.base b, _, _, fun e => hb (OpKey.base.inj e), rfl, congrArg (b :: ·) ?_⟩
        show List.take _ _ ++ tail.drop _ = tail
        rw [take_getD_zero_getD_one (c.operandCount_le_two _) (Nat.le_of_not_lt hlen), List.take_append_drop]

end Sys2Proof
end

section
/-!
SUPPORT. The instructions a lookup can select are the well-formed ones, each at its own key (spec/30_encoding.md R93 to
R96).
-/

namespace Sys2Proof

/-! ## Well-formedness, case by case -/

@[simp] theorem wellFormed_illegal {c : Config} {b : Byte} :
    (Instr.illegal b).wellFormed c = true ↔ c.has (.base b) = false ∧ b ≠ 0xCB := by
  simp [Instr.wellFormed]

@[simp] theorem wellFormed_prefixCb {c : Config} {key : Byte} :
    (Instr.prefixCb key).wellFormed c = true ↔ c.has (.ext key) = false := by
  simp [Instr.wellFormed]

/-- Every other instruction is well-formed where its descriptor is present. -/
theorem wellFormed_of_ne {c : Config} {i : Instr} (hi : ∀ b, i ≠ .illegal b) (hp : ∀ key, i ≠ .prefixCb key) :
    i.wellFormed c = c.has i.key := by
  unfold Instr.wellFormed
  split
  next b => exact absurd rfl (hi b)
  next key => exact absurd rfl (hp key)
  next => rfl

/-! ## What a lookup selects -/

/-- A base byte without a descriptor (R95). -/
theorem decodeKey_base_absent {c : Config} {b : Byte} (h : c.has (.base b) = false) (b1 b2 : Byte) :
    decodeKey c b1 b2 (.base b) = .illegal b := by
  simp [decodeKey, h]

/-- An extended key without a descriptor (R96). -/
theorem decodeKey_ext_absent {c : Config} {key : Byte} (h : c.has (.ext key) = false) (b1 b2 : Byte) :
    decodeKey c b1 b2 (.ext key) = .prefixCb key := by
  simp [decodeKey, h]

/-- No row of the base map is the outcome of a lookup that finds no descriptor (R93, R95). -/
theorem build_ne_illegal : ∀ b : Byte, (baseEntry b).present = true → (baseEntry b).build b 0 0 ≠ .illegal b := by
  decide

/-- No row of the extended map is the outcome of a lookup that finds no descriptor (R94, R96). -/
theorem extInstr_ne_prefixCb : ∀ k : Byte, extInstr k ≠ .prefixCb k := by
  decide

/-- A lookup selects `illegal` only at a base byte without a descriptor (R95). -/
theorem decodeKey_eq_illegal {c : Config} {b1 b2 b : Byte} {k : OpKey} (h : decodeKey c b1 b2 k = .illegal b) :
    k = .base b ∧ c.has (.base b) = false := by
  obtain rfl : k = .base b := by rw [← key_decodeKey c b1 b2 k, h]; rfl
  have operands := operands_decodeKey c b1 b2 (.base b)
  rw [h] at operands
  refine ⟨rfl, Bool.eq_false_iff.mpr fun present => ?_⟩
  have ne := build_ne_illegal b (Bool.and_eq_true_iff.mp present).1
  simp only [decodeKey, Config.operandCount, present, if_true] at h operands
  cases he : baseEntry b <;> rw [he] at h operands ne
  case absent | op => exact ne h
  case imm8 | imm16 => cases operands

/-- A lookup selects `prefixCb` only at an extended key without a descriptor (R96). -/
theorem decodeKey_eq_prefixCb {c : Config} {b1 b2 key : Byte} {k : OpKey} (h : decodeKey c b1 b2 k = .prefixCb key) :
    k = .ext key ∧ c.has (.ext key) = false := by
  obtain rfl : k = .ext key := by rw [← key_decodeKey c b1 b2 k, h]; rfl
  refine ⟨rfl, Bool.eq_false_iff.mpr fun present => ?_⟩
  simp only [decodeKey, present, if_true] at h
  exact extInstr_ne_prefixCb key h

/-- What a lookup selects, at a key other than 0xCB, is well-formed. -/
theorem wellFormed_decodeKey (c : Config) (b1 b2 : Byte) {k : OpKey} (hk : k ≠ .base 0xCB) :
    (decodeKey c b1 b2 k).wellFormed c = true := by
  cases h : c.has k with
  | true =>
    rw [wellFormed_of_ne, key_decodeKey, h]
    · intro b hb
      obtain ⟨rfl, absent⟩ := decodeKey_eq_illegal hb
      simp [absent] at h
    · intro key hkey
      obtain ⟨rfl, absent⟩ := decodeKey_eq_prefixCb hkey
      simp [absent] at h
  | false =>
    cases k with
    | base b =>
      rw [decodeKey_base_absent h]
      exact wellFormed_illegal.mpr ⟨h, fun hb => hk (congrArg OpKey.base hb)⟩
    | ext key =>
      rw [decodeKey_ext_absent h]
      exact wellFormed_prefixCb.mpr h

/-- A lookup at the key of a well-formed instruction, with its operand bytes, selects it. -/
theorem decodeKey_of_wellFormed {c : Config} {i : Instr} (h : i.wellFormed c = true) :
    decodeKey c (i.parts.2.getD 0 0) (i.parts.2.getD 1 0) i.key = i := by
  cases i
  case illegal b => exact decodeKey_base_absent (wellFormed_illegal.mp h).1 _ _
  case prefixCb key => exact decodeKey_ext_absent (wellFormed_prefixCb.mp h) _ _
  -- An instruction with two operand bytes carries the word they make.
  case ld_bc_d16 w | ld_atA16_sp w | ld_de_d16 w | ld_hl_d16 w | ld_sp_d16 w | jp_nz_a16 w | jp_a16 w | call_nz_a16 w
      | jp_z_a16 w | call_z_a16 w | call_a16 w | jp_nc_a16 w | call_nc_a16 w | jp_c_a16 w | call_c_a16 w | ld_atA16_a w
      | ld_a_atA16 w =>
    exact (if_pos h).trans (congrArg _ (joinBytes_hiByte_loByte w))
  all_goals exact if_pos h

/-- The byte 0xCB has no descriptor of its own, whatever `IMPLEMENTED` holds (R95, R111). -/
theorem Config.has_prefix (c : Config) : c.has (.base 0xCB) = false := rfl

/-- No well-formed instruction stands at 0xCB: the lookup there finds nothing. -/
theorem key_ne_prefix {c : Config} {i : Instr} (h : i.wellFormed c = true) : i.key ≠ .base 0xCB := by
  intro hk
  have selects := decodeKey_of_wellFormed h
  rw [hk, decodeKey_base_absent c.has_prefix] at selects
  subst selects
  exact (wellFormed_illegal.mp h).2 rfl

/-! ## The two round trips -/

/-- Settles O1: a well-formed instruction is what a lookup at its own key and operand bytes selects. -/
theorem decodeOfEncode : Obligations.DecodeOfEncode := by
  intro c i rest h
  have read := decode_opcodeBytes c (key_ne_prefix h) (i.parts.2.getD 0 0) (i.parts.2.getD 1 0) rest
  rwa [← encode_decodeKey, decodeKey_of_wellFormed h] at read

/-- Settles O2: what was read is the outcome of a lookup, which the encoder puts back at the same bytes. -/
theorem encodeOfDecode : Obligations.EncodeOfDecode := by
  intro c bytes i rest h
  obtain ⟨k, b1, b2, hk, rfl, hbytes⟩ := decode_ok h
  exact ⟨wellFormed_decodeKey c b1 b2 hk, by rw [encode_decodeKey, hbytes]⟩

/-- Settles O3: each sequence is the encoding of its instruction. -/
theorem specBytesDecode : Obligations.SpecBytesDecode := by
  have read (i : Instr) (h : i.wellFormed {} = true) : decode {} (encode i ++ []) = .ok (i, []) :=
    decodeOfEncode {} i [] h
  exact ⟨read .ld_b_c rfl, read (.ld_a_d8 0x9A) rfl, read (.ld_sp_d16 0xFFFE) rfl, read .push_af rfl,
    read .sbc_a_h rfl, read .dec_atHL rfl, read .add_hl_sp rfl, read .rra rfl, read .rr_atHL rfl, read .bit_7_h rfl,
    read (.jr_nz_e8 0xFB) rfl, read (.call_nc_a16 0x0300) rfl, read (.stop 0xFF) rfl, read (.illegal 0xD3) rfl⟩

end Sys2Proof
end

section
/-!
SUPPORT. The operand bytes of the instruction at `op_addr` (spec/30_encoding.md R86, R87, R92, R98).
-/

namespace Sys2Proof.Machine

/-- The lengths of R92 are those of the formats in the base map (R80, R93). -/
theorem operandCount_baseEntry : ∀ b : Byte, (baseEntry b).operandCount = encodedLength (.base b) - 1 := by
  decide

/-- A present descriptor reads as many operand bytes as its `encodedLength` counts after the opcode byte (R97). -/
theorem operandCount_eq {c : Config} {k : OpKey} (h : c.has k = true) : c.operandCount k = encodedLength k - 1 := by
  cases k with
  | ext k => rfl
  | base b => exact (if_pos h).trans (operandCount_baseEntry b)

/-- Settles O6: the instruction at a key is a lookup with the bytes at `op_addr + 1` and `op_addr + 2`. -/
theorem operandBytesFollowOpcode : Obligations.OperandBytesFollowOpcode := by
  intro s k h
  refine ⟨instrAt_key h, ?_⟩
  rw [← operandCount_eq h]
  exact encode_decodeKey s.config _ _ k

end Sys2Proof.Machine
end

section
/-!
SUPPORT. Restarts, and every instruction that pushes a return address (spec/46_control.md R295, R296, R300).
-/

namespace Sys2Proof.Machine

/-- An instruction whose action pushes `ret` and then sets PC pushes and jumps. -/
theorem RunsAs.pushesAndJumps {i : Instr} {action : State → State} {len ret target : Word} {s : State}
    (r : RunsAs i action len true s) (h : action s = { s.push16 ret with pc := target }) :
    PushesAndJumps i ret target s := by
  have went : WentTo i target s ((action s).retire i.key) := r.wentTo (by rw [h]) (by rw [h]; simp) (by rw [h]; simp)
  have run := r.run
  rw [h] at run went
  have hread (x : Word) : ({ s.push16 ret with pc := target }.retire i.key).readByte x = (s.push16 ret).readByte x :=
    State.readByte_retire _ _ _
  have hne : s.sp - 1 ≠ s.sp - 2 := by bv_omega
  refine ⟨_, run, by simp, ?_, ?_, by simp, ?_, went⟩
  · rw [hread, State.readByte_push16, if_neg hne, if_pos rfl]
  · rw [hread, State.readByte_push16, if_pos rfl]
  · exact Keeps.retire (t := { s.push16 ret with pc := target }) (keeps_push16 s ret) i.key

end Sys2Proof.Machine

namespace Sys2Proof

/-- Settles O57: each of the eight fields has its byte, and its action is a push and a jump. -/
theorem restart : Obligations.Restart := by
  intro y s
  refine ⟨?_, (Machine.runs_rst y s).pushesAndJumps rfl⟩
  fin_cases y <;> rfl

end Sys2Proof
end

section
/-!
SUPPORT. The stall of a lookup that finds no descriptor, with the bridges that run no callback (spec/40_engine.md R112;
spec/60_exceptions.md R405, R410).
-/

namespace Sys2Proof.Machine

/-- Without a bridge a publication does nothing (R113). -/
theorem State.fire_of_no_bridge {s : State} (h : s.bridge = none) (e : Event) : s.fire e = s := by
  simp [State.fire, h]

/-- A bridge that subscribes nothing is notified, and no callback runs (R410). -/
theorem State.fire_of_no_subscriptions {s : State} {br : Bridge} (h : s.bridge = some br)
    (hs : br.subscriptions = []) (e : Event) :
    s.fire e = { s with bridge := some { br with record := br.record ++ [.event e] } } := by
  simp [State.fire, h, hs, invokeCallbacks, State.note]

/-- Settles O60: the two constructors publish one event, which changes no register. -/
theorem missingDescriptorCompletes : Obligations.MissingDescriptorCompletes := by
  intro key s i hi
  have hrun : exec i s = .next (s.fire (.unimplementedOpcode key)) := by
    obtain rfl | rfl : i = .illegal key ∨ i = .prefixCb key := by simpa using hi
    all_goals rfl
  obtain ⟨m, r, br, hframe⟩ := (hostMove_fire (.unimplementedOpcode key) s).frame
  refine ⟨_, hrun, fun q _ => ?_, ?_, ?_, ?_, ?_, ?_, ?_, ?_, fun h => s.fire_of_no_bridge h _,
    fun br h hs => s.fire_of_no_subscriptions h hs _⟩
  · rw [hframe]
    cases q <;> rfl
  all_goals rw [hframe]

end Sys2Proof.Machine
end

section
/-!
SUPPORT. The step through the decoder and through its publications (spec/40_engine.md R110 to R114, R117;
spec/60_exceptions.md R400, R405, R410).
-/

namespace Sys2Proof.Machine

/-! ## The fetch and `op_addr` -/

/-- After 0xCB the lookup is in the extended table (R111). -/
theorem State.fetchKey_of_prefix {s : State} (h : s.readByte s.pc = 0xCB) :
    s.fetchKey = .ext (s.readByte (s.pc + 1)) := if_pos h

/-- Every other byte is looked up in the base table (R111). -/
theorem State.fetchKey_of_not_prefix {s : State} (h : s.readByte s.pc ≠ 0xCB) :
    s.fetchKey = .base (s.readByte s.pc) := if_neg h

/-- `op_addr` lies past 0xCB (R114). -/
theorem State.atOpAddr_of_prefix {s : State} (h : s.readByte s.pc = 0xCB) : s.atOpAddr = { s with pc := s.pc + 1 } :=
  if_pos h

/-- At any other byte `op_addr` is PC (R114). -/
theorem State.atOpAddr_of_not_prefix {s : State} (h : s.readByte s.pc ≠ 0xCB) : s.atOpAddr = s := if_neg h

@[simp] theorem State.atOpAddr_bridge (s : State) : s.atOpAddr.bridge = s.bridge := by
  unfold State.atOpAddr
  split <;> rfl

/-- The decoder reads at PC the instruction that the step finds at `op_addr`. -/
theorem decode_bytesAtPc (s : State) :
    ∃ rest, decode s.config s.bytesAtPc = .ok (s.atOpAddr.instrAt s.fetchKey, rest) := by
  by_cases h : s.readByte s.pc = 0xCB
  · rw [s.fetchKey_of_prefix h, s.atOpAddr_of_prefix h]
    exact ⟨_, if_pos h⟩
  · rw [s.fetchKey_of_not_prefix h, s.atOpAddr_of_not_prefix h]
    have enough : ¬ 2 < s.config.operandCount (.base (s.readByte s.pc)) :=
      Nat.not_lt.mpr (s.config.operandCount_le_two _)
    exact ⟨_, (decode_base h _).trans (if_neg enough)⟩

/-! ## The instruction between the two publications -/

/-- Under a present descriptor the step finds an instruction that runs an action (R95, R96). -/
theorem instrAt_runsAction {s : State} {k : OpKey} (h : s.config.has k = true) : RunsAction (s.instrAt k) := by
  obtain runs | ⟨key, hi | hi⟩ := exec_cases (s.instrAt k)
  · exact runs
  · obtain ⟨rfl, absent⟩ := decodeKey_eq_illegal hi
    simp [absent] at h
  · obtain ⟨rfl, absent⟩ := decodeKey_eq_prefixCb hi
    simp [absent] at h

/-- An instruction that runs an action leaves the bridge alone. -/
theorem RunsAction.exec_bridge {i : Instr} (h : RunsAction i) (s : State) :
    ∃ u, exec i s = .next u ∧ u.bridge = s.bridge := by
  obtain ⟨act, ha, hx⟩ := h
  obtain ⟨φ, hφ, hact⟩ := action_withRest ha
  have hrest : (act s).rest = φ s.rest := congrArg State.rest (hact s s.rest)
  have hkeep : (φ s.rest).bridge = s.bridge := by cases hφ <;> rfl
  refine ⟨_, hx s, ?_⟩
  calc
    ((act s).retire i.key).bridge = (act s).rest.bridge := State.retire_bridge _ _
    _ = s.bridge := by rw [hrest, hkeep]

/-- An executing step: what its instruction answers, and the bridge the instruction leaves alone (R110). -/
theorem step_executed_next {s : State} (h : s.halted = false) (hk : s.config.has s.fetchKey = true) :
    ∃ u, exec (s.ready.instrAt s.fetchKey) s.ready = .next u ∧ u.bridge = s.ready.bridge ∧
      step s = .next (u.fire (.afterExecute (debugView s.config s.fetchKey))) := by
  obtain ⟨u, hu, hb⟩ := (instrAt_runsAction (s := s.ready) (by rwa [State.ready_config])).exec_bridge s.ready
  exact ⟨u, hu, hb, by rw [step_executed h hk, hu]; rfl⟩

/-- With no bridge attached a step is the instruction at `op_addr`, executed or stalled (R110, R113). -/
theorem step_of_no_bridge {s : State} (h : s.halted = false) (hb : s.bridge = none) :
    step s = exec (s.atOpAddr.instrAt s.fetchKey) s.atOpAddr := by
  cases hk : s.config.has s.fetchKey with
  | false =>
    have absent : s.atOpAddr.config.has s.fetchKey = false := by rwa [State.atOpAddr_config]
    rw [step_stalled h hk, exec_instrAt_absent absent]
  | true =>
    obtain ⟨u, hu, hub, hs⟩ := step_executed_next h hk
    have hready : s.ready = s.atOpAddr := State.fire_of_no_bridge (by simpa using hb) _
    rw [hready] at hu hub
    rw [hs, hu, State.fire_of_no_bridge (by simpa [hb] using hub)]

/-! ## The obligations -/

/-- Settles O4: the decoder's instruction is the one at `op_addr`, and no publication comes between. -/
theorem stepRunsDecodedInstruction : Obligations.StepRunsDecodedInstruction := by
  intro s i rest h hb hd _
  obtain ⟨rest', hread⟩ := decode_bytesAtPc s
  obtain ⟨rfl, -⟩ : s.atOpAddr.instrAt s.fetchKey = i ∧ rest' = rest := by simpa [hread] using hd
  refine ⟨step_of_no_bridge h hb, ?_⟩
  have hkey : (s.atOpAddr.instrAt s.fetchKey).key = s.fetchKey := key_decodeKey _ _ _ _
  rw [hkey]
  by_cases hp : s.readByte s.pc = 0xCB
  · rw [s.fetchKey_of_prefix hp, s.atOpAddr_of_prefix hp]
  · rw [s.fetchKey_of_not_prefix hp, s.atOpAddr_of_not_prefix hp]

/-- Settles O5: the state at which `before_execute` has been published is `State.ready`. -/
theorem stepRunsCallbacksAroundInstruction : Obligations.StepRunsCallbacksAroundInstruction := by
  rintro s t u h hk rfl hu
  exact (step_executed h hk).trans (congrArg (fireAfter _) hu)

/-- Settles O7: the stall at `op_addr`, which no bridge sees when there is none. -/
theorem missingDescriptorStalls : Obligations.MissingDescriptorStalls := by
  intro s h hk
  have quiet (hb : s.bridge = none) : step s = .next s.atOpAddr := by
    rw [step_stalled h hk, State.fire_of_no_bridge (by simpa using hb)]
  refine ⟨by simp [State.report, h, hk], step_stalled h hk, fun hb hp => ?_, fun hb hp => ?_⟩
  · rw [quiet hb, s.atOpAddr_of_not_prefix hp]
  · rw [quiet hb, s.atOpAddr_of_prefix hp]

/-- Settles O8: `halted` is tested before anything else. -/
theorem haltedStepChangesNothing : Obligations.HaltedStepChangesNothing :=
  fun _ h => ⟨if_pos h, step_halted h, rfl, rfl⟩

/-- Settles O9: each step is a function of the state, with no other outcome. -/
theorem everyStepAnswersNext : Obligations.EveryStepAnswersNext := by
  intro s
  obtain ⟨f, hf, -⟩ := step_blind s
  exact ⟨f s, hf s.unread⟩

/-- Settles O10: no callback runs, so each publication puts one event on the record, and the instruction none. -/
theorem stepPublishesEventsInOrder : Obligations.StepPublishesEventsInOrder := by
  intro s br hb hs
  have hop : s.atOpAddr.bridge = some br := by simpa using hb
  cases h : s.halted with
  | true => exact ⟨s, step_halted h, by simp [State.report, h, hb]⟩
  | false =>
    cases hk : s.config.has s.fetchKey with
    | false =>
      refine ⟨_, step_stalled h hk, ?_⟩
      simp [State.report, h, hk, State.fire_of_no_subscriptions hop hs]
    | true =>
      obtain ⟨u, -, hub, hstep⟩ := step_executed_next h hk
      rw [State.ready, State.fire_of_no_subscriptions hop hs] at hub
      refine ⟨_, hstep, ?_⟩
      simp [State.report, h, hk, State.fire_of_no_subscriptions hub hs]

end Sys2Proof.Machine
end

section
/-!
SUPPORT. The stack instructions and the control transfers by their actions (spec/40_engine.md R130 to R135;
spec/42_load16_stack.md R184 to R186; spec/46_control.md R290 to R299).
-/

namespace Sys2Proof

/-- Adding a displacement is the signed sum, modulo 0x10000 (R10, R135, R140). -/
theorem toNat_add_sext16 (w : Word) (e : Byte) :
    ((w + sext16 e).toNat : Int) = ((w.toNat : Int) + e.toInt) % 65536 := by
  have hext : ((sext16 e).toNat : Int) = e.toInt % 65536 := by
    rw [sext16, BitVec.signExtend, BitVec.toNat_ofInt]
    omega
  rw [BitVec.toNat_add]
  omega

end Sys2Proof

namespace Sys2Proof.Machine

/-! ## Pairs and words after an update -/

@[simp] theorem State.getPair_retire (s : State) (k : OpKey) (p : Pair) : (s.retire k).getPair p = s.getPair p := by
  cases p <;> simp [State.getPair]

@[simp] theorem State.readWord_retire (s : State) (k : OpKey) (x : Word) : (s.retire k).readWord x = s.readWord x := by
  simp [State.readWord]

theorem State.getPair_setPair_other (s : State) {p q : Pair} (w : Word) (h : q ≠ p) :
    (s.setPair p w).getPair q = s.getPair q := by
  cases p <;> cases q <;> first | rfl | exact absurd rfl h

/-- A write of a pair other than AF leaves A and F. -/
theorem State.setPair_a_f (s : State) {p : Pair} (w : Word) (h : p ≠ .af) :
    (s.setPair p w).a = s.a ∧ (s.setPair p w).f = s.f := by
  cases p with
  | af => exact absurd rfl h
  | bc | de | hl => exact ⟨rfl, rfl⟩

/-- The high byte of a word pushed (R130). -/
theorem State.readByte_push16_high (s : State) (w : Word) : (s.push16 w).readByte (s.sp - 1) = hiByte w := by
  have hne : s.sp - 1 ≠ s.sp - 2 := by bv_omega
  rw [State.readByte_push16, if_neg hne, if_pos rfl]

/-- The low byte of a word pushed (R130). -/
theorem State.readByte_push16_low (s : State) (w : Word) : (s.push16 w).readByte (s.sp - 2) = loByte w := by
  rw [State.readByte_push16, if_pos rfl]

/-! ## Actions that write PC and SP alone -/

theorem keeps_setPc (s : State) (target : Word) : Keeps [] [] s { s with pc := target } :=
  ⟨fun r _ => by cases r <;> rfl, fun _ _ => rfl, SameControl.rfl⟩

theorem keeps_setSp (s : State) (w : Word) : Keeps [] [] s { s with sp := w } :=
  ⟨fun r _ => by cases r <;> rfl, fun _ _ => rfl, SameControl.rfl⟩

theorem keeps_returnFromCall (s : State) : Keeps [] [] s (returnFromCall s) :=
  (keeps_setSp s (s.sp + 2)).trans (keeps_setPc s.drop16 s.top16)

/-- An instruction whose action sets PC jumps. -/
theorem RunsAs.jumps {i : Instr} {action : State → State} {len target : Word} {s : State}
    (r : RunsAs i action len true s) (h : action s = { s with pc := target }) : Jumps i target s := by
  have went : WentTo i target s ((action s).retire i.key) := r.wentTo (by rw [h]) (by rw [h]) (by rw [h])
  have run := r.run
  rw [h] at run went
  exact ⟨_, run, by simp, by simp, (keeps_setPc s target).retire i.key, went⟩

/-- An instruction whose action is `ret()` returns (R134). -/
theorem RunsAs.returns {i : Instr} {action : State → State} {len : Word} {s : State}
    (r : RunsAs i action len true s) (h : action s = returnFromCall s) : Returns i s := by
  have went : WentTo i (s.readWord s.sp) s ((action s).retire i.key) :=
    r.wentTo (by rw [h]; rfl) (by rw [h]; rfl) (by rw [h]; rfl)
  have run := r.run
  rw [h] at run went
  exact ⟨_, run, by simp [returnFromCall], by simp [returnFromCall], (keeps_returnFromCall s).retire i.key, went⟩

/-! ## What the conditional actions do -/

theorem jumpRelativeCond_taken {s : State} {cc : Cond} (h : s.cond cc = true) (e : Byte) :
    jumpRelativeCond cc e s = jumpRelative e s := by
  rw [jumpRelativeCond, h, jumpRelative]

theorem jumpRelativeCond_not_taken {s : State} {cc : Cond} (h : s.cond cc = false) (e : Byte) :
    jumpRelativeCond cc e s = { s with pc := s.pc + 2 } := by
  rw [jumpRelativeCond, h]
  rfl

theorem callCond_taken {s : State} {cc : Cond} (h : s.cond cc = true) (a : Word) : callCond cc a s = call a s :=
  if_pos h

theorem callCond_not_taken {s : State} {cc : Cond} (h : s.cond cc = false) (a : Word) :
    callCond cc a s = { s with pc := s.pc + 3 } := by
  simp [callCond, h]

theorem returnCond_taken {s : State} {cc : Cond} (h : s.cond cc = true) : returnCond cc s = returnFromCall s :=
  if_pos h

theorem returnCond_not_taken {s : State} {cc : Cond} (h : s.cond cc = false) :
    returnCond cc s = { s with pc := s.pc + 1 } := by
  simp [returnCond, h]

/-! ## The instructions outside the families -/

theorem runs_jr (e : Byte) (s : State) : RunsAs (.jr_e8 e) (jumpRelative e) 2 true s := ⟨rfl, rfl, rfl⟩

theorem runs_call (a : Word) (s : State) : RunsAs (.call_a16 a) (call a) 3 true s := ⟨rfl, rfl, rfl⟩

theorem runs_ret (s : State) : RunsAs .ret returnFromCall 1 true s := ⟨rfl, rfl, rfl⟩

theorem runs_reti (s : State) : RunsAs .reti returnAndEnable 1 true s := ⟨rfl, rfl, rfl⟩

end Sys2Proof.Machine

namespace Sys2Proof
open Sys2Proof.Machine

/-- Settles O33: the action is `push16` of the pair, which writes the two bytes below SP. -/
theorem pushPair : Obligations.PushPair := by
  intro p s
  have runs := runs_push p s
  have low : (s.push16 (s.getPair p)).readByte (s.sp - 2) = loByte (s.getPair p) := s.readByte_push16_low _
  refine ⟨by cases p <;> rfl, _, runs.run, ?_, ?_, ?_, ?_, ?_, ?_, (keeps_push16 s _).retire _,
    runs.completed rfl rfl rfl⟩
  · simp [push]
  · simpa [push] using s.readByte_push16_high (s.getPair p)
  · simpa [push] using low
  · simpa [push] using s.readWord_push16 (s.getPair p)
  · rintro rfl
    rw [State.readByte_retire, push, low, State.getPair, loByte_joinBytes, State.readF]
  · simp [push]

/-- Settles O34: the action writes the word at SP to the pair, for AF without bits 3 to 0. -/
theorem popPair : Obligations.PopPair := by
  intro p s
  have runs := runs_pop p s
  refine ⟨by cases p <;> rfl, _, runs.run, ?_, ?_, ?_, fun hp => ?_, fun q hq _ => ?_, fun _ _ => ?_, ?_,
    runs.completed ?_ ?_ ?_⟩
  · simp [pop]
  · rw [State.getPair_retire, pop, State.getPair_setPair, State.top16]
  · rintro rfl
    simp [pop, State.setPair, State.top16, State.readWord, State.readF, BitVec.and_assoc]
  · simpa [pop] using s.drop16.setPair_a_f s.top16 hp
  · rw [State.getPair_retire, pop, State.getPair_setPair_other _ _ hq]
    cases q <;> rfl
  all_goals simp [pop, SameControl]

/-- Settles O53: both actions are `jr(c)` of R135. -/
theorem relativeJumps : Obligations.RelativeJumps := by
  intro cc e s
  refine ⟨⟨rfl, s.pc + 2 + sext16 e, ?_, (runs_jr e s).jumps rfl, fun h => ?_⟩, by cases cc <;> rfl, fun h => ?_⟩
  · have next : (s.pc + 2).toNat = (s.pc.toNat + 2) % 65536 := BitVec.toNat_add s.pc 2
    rw [toNat_add_sext16, next]
    omega
  · exact (runs_jrCond cc e s).jumps (jumpRelativeCond_taken h e)
  · exact (runs_jrCond cc e s).jumps (jumpRelativeCond_not_taken h e)

/-- Settles O54: a call that is taken is `call(a16)` of R133. -/
theorem calls : Obligations.Calls := by
  intro cc a s
  refine ⟨⟨rfl, (runs_call a s).pushesAndJumps rfl⟩, by cases cc <;> rfl, fun h => ?_, fun h => ?_⟩
  · exact (runs_callCond cc a s).pushesAndJumps (callCond_taken h a)
  · exact (runs_callCond cc a s).jumps (callCond_not_taken h a)

/-- Settles O55: both actions are `ret()` of R134, and RETI writes IME too. -/
theorem unconditionalReturns : Obligations.UnconditionalReturns := by
  intro s
  refine ⟨⟨rfl, (runs_ret s).returns rfl⟩, rfl, _, (runs_reti s).run, ?_, ?_, ?_, ?_, (runs_reti s).wentTo rfl rfl rfl⟩
  · simp [returnAndEnable, returnFromCall]
  · simp [returnAndEnable, returnFromCall]
  · simp [returnAndEnable]
  · exact (keeps_returnFromCall { s with ime := true }).retire _

/-- Settles O56: a return that is taken is `ret()` of R134. -/
theorem conditionalReturns : Obligations.ConditionalReturns := by
  intro cc s
  refine ⟨by cases cc <;> rfl, fun h => ?_, fun h => ?_, by cases cc <;> rfl⟩
  · exact (runs_retCond cc s).returns (returnCond_taken h)
  · exact (runs_retCond cc s).jumps (returnCond_not_taken h)

end Sys2Proof
end

section
/-!
SUPPORT. The flag computations on integers (spec/40_engine.md R124 to R129, R132, R136 to R141): each operation as the
statements read it.
-/

namespace Sys2Proof.Machine

/-- A flag as a byte is its number. -/
@[simp] theorem toNat_flagBit (b : Bool) : (flagBit b).toNat = b.toNat := by cases b <;> rfl

/-! ## Addition and subtraction -/

theorem toNat_add8_res (a b : Byte) (cin : Bool) :
    (add8 a b cin).res.toNat = (a.toNat + b.toNat + cin.toNat) % 256 := by
  simp [add8, BitVec.toNat_add]

/-- H is the carry out of bit 3 (R124). -/
theorem add8_h (a b : Byte) (cin : Bool) :
    (add8 a b cin).h = decide (15 < a.toNat % 16 + b.toNat % 16 + cin.toNat) := by
  simp only [add8, toNat_and_0F, gt_iff_lt]

theorem toNat_sub8_res (a b : Byte) (cin : Bool) :
    ((sub8 a b cin).res.toNat : Int) = ((a.toNat : Int) - (b.toNat : Int) - (cin.toNat : Int)) % 256 := by
  have hcin : cin.toNat ≤ 1 := Bool.toNat_le cin
  simp only [sub8, BitVec.toNat_sub, toNat_flagBit]
  omega

/-- H is the borrow from bit 4 (R125). -/
theorem sub8_h (a b : Byte) (cin : Bool) :
    (sub8 a b cin).h = decide (a.toNat % 16 < b.toNat % 16 + cin.toNat) := by
  simp only [sub8, toNat_and_0F, decide_eq_decide]
  omega

/-- C is the borrow (R125). -/
theorem sub8_c (a b : Byte) (cin : Bool) : (sub8 a b cin).c = decide (a.toNat < b.toNat + cin.toNat) := by
  simp only [sub8, decide_eq_decide]
  omega

theorem toNat_inc8_res (v : Byte) (c : Bool) : (inc8 v c).res.toNat = (v.toNat + 1) % 256 := BitVec.toNat_add v 1

/-- H is set iff the low digit overflows (R129). -/
theorem inc8_h (v : Byte) (c : Bool) : (inc8 v c).h = decide (v.toNat % 16 = 15) := by
  simp only [inc8, toNat_and_0F, decide_eq_decide]
  omega

theorem toNat_dec8_res (v : Byte) (c : Bool) : (dec8 v c).res.toNat = (v.toNat + 255) % 256 :=
  (BitVec.toNat_sub v 1).trans (congrArg (· % 256) (Nat.add_comm 255 v.toNat))

/-- H is set iff the low digit underflows (R132). -/
theorem dec8_h (v : Byte) (c : Bool) : (dec8 v c).h = decide (v.toNat % 16 = 0) := by
  simp only [dec8, toNat_and_0F, decide_eq_decide]
  omega

/-! ## Decimal adjustment -/

/-- After an addition the correction is added; adding 0x60 leaves the low digit (R141). -/
theorem toNat_daa_add (a : Byte) (h c : Bool) :
    (daa a false h c).res.toNat = (a.toNat + (if c = true ∨ 0x99 < a.toNat then 0x60 else 0) +
      (if h = true ∨ 9 < a.toNat % 16 then 0x06 else 0)) % 256 := by
  have raised : (if c = true ∨ 0x99 < a.toNat then a + 0x60 else a).toNat =
      (a.toNat + if c = true ∨ 0x99 < a.toNat then 0x60 else 0) % 256 := by
    split
    · exact BitVec.toNat_add a 0x60
    · exact (Nat.mod_eq_of_lt a.isLt).symm
  have digit : ((if c = true ∨ 0x99 < a.toNat then a + 0x60 else a) &&& 0x0F).toNat = a.toNat % 16 := by
    rw [toNat_and_0F, raised]
    split <;> omega
  have six (x : Byte) : (x + 0x06).toNat = (x.toNat + 0x06) % 256 := BitVec.toNat_add x 0x06
  simp only [daa, Bool.false_eq_true, if_false, Bool.or_eq_true, decide_eq_true_eq, gt_iff_lt, digit]
  split <;> simp only [six, raised] <;> omega

/-- After a subtraction the correction is taken away (R141). -/
theorem toNat_daa_sub (a : Byte) (h c : Bool) :
    ((daa a true h c).res.toNat : Int) =
      ((a.toNat : Int) - (if c then 0x60 else 0) - (if h then 0x06 else 0)) % 256 := by
  cases h <;> cases c <;> simp [daa, BitVec.toNat_sub] <;> omega

/-- Z is that of the result in both branches (R141). -/
theorem daa_z (a : Byte) (n h c : Bool) : (daa a n h c).z = ((daa a n h c).res == 0) := by
  cases n <;> rfl

/-! ## Rotates, shifts and bits -/

/-- A bit as a digit in base 2. -/
theorem getLsbD_eq_decide (v : Byte) (n : Nat) : v.getLsbD n = decide (v.toNat / 2 ^ n % 2 = 1) :=
  Nat.testBit_eq_decide_div_mod_eq

/-- Bit 7 says whether a byte is at least 128. -/
theorem getLsbD_seven (v : Byte) : v.getLsbD 7 = decide (128 ≤ v.toNat) := by
  rw [getLsbD_eq_decide, decide_eq_decide]
  omega

/-- A byte moved left, with a smaller one in the place that becomes free, is their sum. -/
theorem toNat_shiftLeft_or (x y : Byte) {n : Nat} (hn : n ≤ 8) (hy : y.toNat < 2 ^ n) :
    (x <<< n ||| y).toNat = x.toNat * 2 ^ n % 256 + y.toNat := by
  have split : x.toNat * 2 ^ n % 256 = 2 ^ n * (x.toNat % 2 ^ (8 - n)) := by
    rw [Nat.mul_comm, ← Nat.mul_mod_mul_left, ← Nat.pow_add, Nat.add_sub_cancel' hn]
  rw [BitVec.toNat_or, BitVec.toNat_shiftLeft, Nat.shiftLeft_eq, split, Nat.two_pow_add_eq_or_of_lt hy]

/-- A byte moved left by one, with a bit in the free place. -/
theorem toNat_shiftLeft_one_or (v : Byte) (b : Bool) :
    (v <<< 1 ||| flagBit b).toNat = 2 * v.toNat % 256 + b.toNat := by
  have hb : (flagBit b).toNat < 2 ^ 1 := by
    rw [toNat_flagBit]
    exact Bool.toNat_lt b
  rw [toNat_shiftLeft_or v _ (by decide) hb, toNat_flagBit, pow_one, Nat.mul_comm]

/-- A byte moved right by one. -/
theorem toNat_shiftRight_one (v : Byte) : (v >>> 1).toNat = v.toNat / 2 := by
  rw [BitVec.toNat_ushiftRight, Nat.shiftRight_eq_div_pow]

/-- A byte moved right by one, with a bit in the free place. -/
theorem toNat_shiftRight_one_or (v : Byte) (b : Bool) :
    (v >>> 1 ||| flagBit b <<< 7).toNat = v.toNat / 2 + 128 * b.toNat := by
  have hv : (v >>> 1).toNat < 2 ^ 7 := by
    rw [toNat_shiftRight_one]
    omega
  have hb : b.toNat < 2 := Bool.toNat_lt b
  rw [BitVec.or_comm, toNat_shiftLeft_or _ _ (by decide) hv, toNat_shiftRight_one, toNat_flagBit]
  omega

/-- Bit 7 alone. -/
theorem and_80_eq (v : Byte) : v &&& (0x80 : Byte) = flagBit (v.getLsbD 7) <<< 7 := by
  have bits : ∀ i : Fin 8, (v &&& (0x80 : Byte)).getLsbD i = (flagBit (v.getLsbD 7) <<< 7).getLsbD i := by
    intro i
    fin_cases i <;> cases hv : v[7] <;> simp [flagBit, hv]
  exact BitVec.eq_of_getLsbD_eq fun i hi => bits ⟨i, hi⟩

/-- Each rotate and shift function and its carry out, on integers (R137, R138). -/
theorem shiftCompute_eq_shiftOnNat (op : ShiftOp) (v : Byte) (cin : Bool) :
    (shiftCompute op v cin).1.toNat = (shiftOnNat op v.toNat cin.toNat).1 ∧
      (shiftCompute op v cin).2 = (shiftOnNat op v.toNat cin.toNat).2 := by
  have high : (v.getLsbD 7).toNat = v.toNat / 128 := (Nat.toNat_testBit v.toNat 7).trans (Nat.mod_eq_of_lt (by omega))
  have low : (v.getLsbD 0).toNat = v.toNat % 2 := (Nat.toNat_testBit v.toNat 0).trans (by simp)
  have out : v.getLsbD 0 = decide (v.toNat % 2 = 1) := by rw [getLsbD_eq_decide, pow_zero, Nat.div_one]
  cases op with
  | rlc =>
    refine ⟨?_, getLsbD_seven v⟩
    simp only [shiftCompute, shiftOnNat, toNat_shiftLeft_one_or, high]
    omega
  | rrc =>
    refine ⟨?_, out⟩
    simp only [shiftCompute, shiftOnNat, toNat_shiftRight_one_or, low]
  | rl =>
    have hcin : cin.toNat < 2 := Bool.toNat_lt cin
    refine ⟨?_, getLsbD_seven v⟩
    simp only [shiftCompute, shiftOnNat, toNat_shiftLeft_one_or]
    omega
  | rr => exact ⟨toNat_shiftRight_one_or v cin, out⟩
  | sla =>
    refine ⟨?_, getLsbD_seven v⟩
    rw [shiftCompute, shiftOnNat, BitVec.toNat_shiftLeft, Nat.shiftLeft_eq, Nat.mul_comm]
  | sra =>
    refine ⟨?_, out⟩
    show (v >>> 1 ||| v &&& 0x80).toNat = v.toNat / 2 + 128 * (v.toNat / 128)
    rw [and_80_eq, toNat_shiftRight_one_or, high]
  | swap =>
    have hv : (v >>> 4).toNat = v.toNat / 16 := by rw [BitVec.toNat_ushiftRight, Nat.shiftRight_eq_div_pow]
    refine ⟨?_, rfl⟩
    simp only [shiftCompute, shiftOnNat]
    rw [toNat_shiftLeft_or _ _ (by decide) (by omega), hv]
    omega
  | srl => exact ⟨toNat_shiftRight_one v, out⟩

/-- Z is set iff the bit is 0 (R136). -/
theorem testBit_z (n : Fin 8) (v : Byte) (c : Bool) : (testBit n v c).z = decide (v.toNat / 2 ^ n.val % 2 = 0) := by
  rw [testBit, getLsbD_eq_decide, ← decide_not, decide_eq_decide]
  exact Nat.mod_two_ne_one

/-! ## 16-bit addition -/

theorem add16Half_eq (a b : Word) : add16Half a b = decide (4095 < a.toNat % 4096 + b.toNat % 4096) := by
  simp only [add16Half, toNat_and_0FFF, gt_iff_lt]

theorem addSpHalf_eq (sp : Word) (u : Byte) : addSpHalf sp u = decide (15 < sp.toNat % 16 + u.toNat % 16) := by
  simp only [addSpHalf, toNat_and_000F, toNat_and_0F, gt_iff_lt]

theorem addSpCarry_eq (sp : Word) (u : Byte) : addSpCarry sp u = decide (255 < sp.toNat % 256 + u.toNat) := by
  simp only [addSpCarry, toNat_and_00FF, gt_iff_lt]

end Sys2Proof.Machine
end

section
/-!
SUPPORT. The instructions that write a result with its flags, by what they write (spec/43_alu8.md; spec/44_alu16.md;
spec/45_rotate_shift_bit.md).
-/

namespace Sys2Proof.Machine

/-! ## A result and its flags -/

/-- The flags an operation writes are read back (R123). -/
theorem State.setFlags_flagsAre (s : State) (x : Flagged) : FlagsAre (s.setFlags x) x.z x.n x.h x.c :=
  s.setF_flagsAre x.z x.n x.h x.c

/-- `i` writes the result of `x` to the register `r` and the flags of `x`, with Z from the result, and changes nothing
else. -/
def WritesReg (i : Instr) (r : Reg8) (x : Flagged) (len : Word) (s : State) : Prop :=
  ∃ t, exec i s = .next t ∧ t.getR r = x.res ∧ FlagsAre t (t.getR r == 0) x.n x.h x.c ∧ t.sp = s.sp ∧
    Keeps [r] [] s t ∧ Completed i len s t

/-- `i` writes the result of `x` to the byte at `a` and the flags of `x`, with Z from the result, and changes nothing
else. -/
def WritesByte (i : Instr) (a : Word) (x : Flagged) (len : Word) (s : State) : Prop :=
  ∃ t, exec i s = .next t ∧ t.readByte a = x.res ∧ FlagsAre t (t.readByte a == 0) x.n x.h x.c ∧ t.sp = s.sp ∧
    Keeps [] [a] s t ∧ Completed i len s t

/-- `i` writes the flags of `x` and changes nothing else. -/
def WritesFlags (i : Instr) (x : Flagged) (len : Word) (s : State) : Prop :=
  ∃ t, exec i s = .next t ∧ FlagsAre t x.z x.n x.h x.c ∧ t.sp = s.sp ∧ Keeps [] [] s t ∧ Completed i len s t

section
variable {i : Instr} {action : State → State} {len : Word} {s : State} {x : Flagged}

theorem RunsAs.writesReg {r : Reg8} (runs : RunsAs i action len false s)
    (h : action s = (s.setR r x.res).setFlags x) (hz : x.z = (x.res == 0)) : WritesReg i r x len s := by
  have done := runs.completed (by simp [h]) (by simp [h]) (by simp [h])
  have run := runs.run
  rw [h] at run done
  have hres : (((s.setR r x.res).setFlags x).retire i.key).getR r = x.res := by simp
  have keeps : Keeps [r] [] s ((s.setR r x.res).setFlags x) :=
    (keeps_setR s r x.res).trans ((keeps_setFlags _ x).mono (by simp) (by simp))
  refine ⟨_, run, hres, ?_, by simp, keeps.retire _, done⟩
  rw [hres, ← hz]
  exact (State.setFlags_flagsAre _ x).retire _

theorem RunsAs.writesByte {a : Word} (runs : RunsAs i action len false s)
    (h : action s = (s.writeByte a x.res).setFlags x) (hz : x.z = (x.res == 0)) : WritesByte i a x len s := by
  have done := runs.completed (by simp [h]) (by simp [h]) (by simp [h])
  have run := runs.run
  rw [h] at run done
  have hres : (((s.writeByte a x.res).setFlags x).retire i.key).readByte a = x.res := by simp
  have keeps : Keeps [] [a] s ((s.writeByte a x.res).setFlags x) :=
    (keeps_writeByte s a x.res).trans ((keeps_setFlags _ x).mono (by simp) (by simp))
  refine ⟨_, run, hres, ?_, by simp, keeps.retire _, done⟩
  rw [hres, ← hz]
  exact (State.setFlags_flagsAre _ x).retire _

theorem RunsAs.writesFlags (runs : RunsAs i action len false s) (h : action s = s.setFlags x) :
    WritesFlags i x len s := by
  have done := runs.completed (by simp [h]) (by simp [h]) (by simp [h])
  have run := runs.run
  rw [h] at run done
  exact ⟨_, run, (State.setFlags_flagsAre s x).retire _, by simp, (keeps_setFlags s x).retire _, done⟩

end

/-! ## The 8-bit arithmetic and logic -/

/-- The bytes of an ALU instruction, in every operand form (R93). -/
theorem encode_instrAlu (op : AluOp) (src : Source) : encode (instrAlu op src) = aluBytes op src := by
  cases src with
  | reg r => cases op <;> cases r <;> rfl
  | atHL | imm n => cases op <;> rfl

theorem aluCompute_z (op : AluOp) (a b : Byte) (cin : Bool) :
    (aluCompute op a b cin).z = ((aluCompute op a b cin).res == 0) := by
  cases op <;> rfl

/-- Every ALU instruction but CP writes A and the flags of its operation (R200 to R220). -/
theorem writesReg_alu {op : AluOp} (h : op ≠ .cp) (src : Source) (s : State) :
    WritesReg (instrAlu op src) .a (aluCompute op s.a (s.source src) s.flagC) (sourceLength src) s :=
  (runs_alu op src s).writesReg (if_neg h) (aluCompute_z _ _ _ _)

/-! ## The instructions outside the families -/

theorem runs_incHL (s : State) : RunsAs .inc_atHL incHL 1 false s := ⟨rfl, rfl, rfl⟩

theorem runs_decHL (s : State) : RunsAs .dec_atHL decHL 1 false s := ⟨rfl, rfl, rfl⟩

theorem runs_daa (s : State) : RunsAs .daa decimalAdjust 1 false s := ⟨rfl, rfl, rfl⟩

theorem runs_addSP (e : Byte) (s : State) : RunsAs (.add_sp_e8 e) (addSP e) 2 false s := ⟨rfl, rfl, rfl⟩

/-! ## 16-bit operands -/

@[simp] theorem State.getReg16_retire (s : State) (k : OpKey) (r : Reg16) : (s.retire k).getReg16 r = s.getReg16 r := by
  cases r <;> simp [State.getReg16]

@[simp] theorem State.getReg16_setF (s : State) (z n h c : Bool) (r : Reg16) :
    (s.setF z n h c).getReg16 r = s.getReg16 r := by cases r <;> rfl

theorem State.getReg16_setReg16_same (s : State) (r : Reg16) (w : Word) : (s.setReg16 r w).getReg16 r = w := by
  cases r with
  | sp => rfl
  | bc | de | hl => exact joinBytes_hiByte_loByte w

theorem State.getReg16_setReg16_other (s : State) {r q : Reg16} (w : Word) (h : q ≠ r) :
    (s.setReg16 r w).getReg16 q = s.getReg16 q := by
  cases r <;> cases q <;> first | rfl | exact absurd rfl h

/-- A write of a 16-bit operand changes it alone. -/
theorem keepsPairs_setReg16 (s : State) (r : Reg16) (w : Word) : KeepsPairs [r] s (s.setReg16 r w) :=
  ⟨by simp, fun _ hq => s.getReg16_setReg16_other w (by simpa using hq), fun _ _ => by simp, by simp [SameControl]⟩

/-- A frame of pairs survives a write of the flags. -/
theorem KeepsPairs.setF {but : List Reg16} {s t : State} (k : KeepsPairs but s t) (z n h c : Bool) :
    KeepsPairs but s (t.setF z n h c) := by
  obtain ⟨ha, hq, hmem, hcontrol⟩ := k
  exact ⟨ha, fun q hn => (t.getReg16_setF z n h c q).trans (hq q hn), hmem, hcontrol⟩

/-- A frame of pairs survives what follows an action. -/
theorem KeepsPairs.retire {but : List Reg16} {s t : State} (k : KeepsPairs but s t) (key : OpKey) :
    KeepsPairs but s (t.retire key) := by
  obtain ⟨ha, hq, hmem, hcontrol⟩ := k
  refine ⟨?_, fun q hn => ?_, fun x hn => ?_, ?_⟩
  · rw [State.retire_a, ha]
  · rw [State.getReg16_retire, hq q hn]
  · rw [State.readByte_retire, hmem x hn]
  · simpa [SameControl] using hcontrol

end Sys2Proof.Machine

namespace Sys2Proof
open Sys2Proof.Machine

/-! ## The obligations -/

/-- Settles O35: ADD is `add8` with no carry in, ADC with the carry flag. -/
theorem addAndAddWithCarry : Obligations.AddAndAddWithCarry := by
  intro src s op hop cin hcin
  obtain ⟨carry, rfl, hne, hx⟩ : ∃ carry : Bool, cin = carry.toNat ∧ op ≠ .cp ∧
      aluCompute op s.a (s.source src) s.flagC = add8 s.a (s.source src) carry := by
    obtain rfl | rfl : op = .add ∨ op = .adc := by simpa using hop
    · exact ⟨false, hcin, by decide, rfl⟩
    · exact ⟨s.flagC, hcin, by decide, rfl⟩
  obtain ⟨t, run, hres, flags, rest⟩ := writesReg_alu hne src s
  rw [hx] at hres flags
  rw [add8_h] at flags
  exact ⟨encode_instrAlu op src, t, run, (congrArg BitVec.toNat hres).trans (toNat_add8_res _ _ _), flags, rest⟩

/-- Settles O36: SUB is `sub8` with no borrow in, SBC with the carry flag. -/
theorem subtractAndSubtractWithCarry : Obligations.SubtractAndSubtractWithCarry := by
  intro src s op hop cin hcin
  obtain ⟨carry, rfl, hne, hx⟩ : ∃ carry : Bool, cin = carry.toNat ∧ op ≠ .cp ∧
      aluCompute op s.a (s.source src) s.flagC = sub8 s.a (s.source src) carry := by
    obtain rfl | rfl : op = .sub ∨ op = .sbc := by simpa using hop
    · exact ⟨false, hcin, by decide, rfl⟩
    · exact ⟨s.flagC, hcin, by decide, rfl⟩
  obtain ⟨t, run, hres, flags, rest⟩ := writesReg_alu hne src s
  rw [hx] at hres flags
  rw [sub8_h, sub8_c] at flags
  refine ⟨encode_instrAlu op src, t, run, ?_, flags, rest⟩
  rw [← toNat_sub8_res, ← hres]
  rfl

/-- Settles O37: the three operations differ in the result and in H. -/
theorem andXorOr : Obligations.AndXorOr := by
  intro src s op hop
  refine ⟨encode_instrAlu op src, ?_⟩
  obtain rfl | rfl | rfl : op = .and ∨ op = .xor ∨ op = .or := by simpa using hop
  · obtain ⟨t, run, hres, rest⟩ := writesReg_alu (op := .and) (by decide) src s
    exact ⟨t, run, fun _ => hres, nofun, nofun, rest⟩
  · obtain ⟨t, run, hres, rest⟩ := writesReg_alu (op := .xor) (by decide) src s
    exact ⟨t, run, nofun, fun _ => hres, nofun, rest⟩
  · obtain ⟨t, run, hres, rest⟩ := writesReg_alu (op := .or) (by decide) src s
    exact ⟨t, run, nofun, nofun, fun _ => hres, rest⟩

/-- Settles O39: both forms are `inc8`. -/
theorem increment : Obligations.Increment := by
  intro r s
  refine ⟨⟨by cases r <;> rfl, ?_⟩, rfl, ?_⟩
  · obtain ⟨t, run, hres, flags, rest⟩ := (runs_incReg r s).writesReg (x := inc8 (s.getR r) s.flagC) rfl rfl
    exact ⟨t, run, by rw [hres, toNat_inc8_res], inc8_h (s.getR r) s.flagC ▸ flags, rest⟩
  · obtain ⟨t, run, hres, flags, rest⟩ := (runs_incHL s).writesByte (x := inc8 (s.readByte s.hl) s.flagC) rfl rfl
    exact ⟨t, run, by rw [hres, toNat_inc8_res], inc8_h (s.readByte s.hl) s.flagC ▸ flags, rest⟩

/-- Settles O40: both forms are `dec8`. -/
theorem decrement : Obligations.Decrement := by
  intro r s
  refine ⟨⟨by cases r <;> rfl, ?_⟩, rfl, ?_⟩
  · obtain ⟨t, run, hres, flags, rest⟩ := (runs_decReg r s).writesReg (x := dec8 (s.getR r) s.flagC) rfl rfl
    exact ⟨t, run, by rw [hres, toNat_dec8_res], dec8_h (s.getR r) s.flagC ▸ flags, rest⟩
  · obtain ⟨t, run, hres, flags, rest⟩ := (runs_decHL s).writesByte (x := dec8 (s.readByte s.hl) s.flagC) rfl rfl
    exact ⟨t, run, by rw [hres, toNat_dec8_res], dec8_h (s.readByte s.hl) s.flagC ▸ flags, rest⟩

/-- Settles O41: the branch of `daa` is that of N. -/
theorem decimalAdjust : Obligations.DecimalAdjust := by
  intro s
  obtain ⟨t, run, hres, flags, rest⟩ :=
    (runs_daa s).writesReg (x := daa s.a s.flagN s.flagH s.flagC) rfl (daa_z _ _ _ _)
  have ha : t.a = (daa s.a s.flagN s.flagH s.flagC).res := hres
  refine ⟨rfl, t, run, fun hn => ?_, fun hn => ?_, rest⟩
  · rw [hn] at ha flags
    exact ⟨by rw [ha, toNat_daa_add], flags⟩
  · rw [hn] at ha flags
    exact ⟨by rw [ha, toNat_daa_sub], flags⟩

/-- Settles O43: the action is `add16` into HL, then the flags. -/
theorem addPairToHL : Obligations.AddPairToHL := by
  intro rr s
  have runs := runs_addHL rr s
  have keeps : KeepsPairs [.hl] s (addHL rr s) := (keepsPairs_setReg16 s .hl _).setF _ _ _ _
  have flags : FlagsAre (addHL rr s) s.flagZ false (add16Half s.hl (s.getReg16 rr)) (add16Carry s.hl (s.getReg16 rr)) :=
    State.setF_flagsAre _ _ _ _ _
  rw [add16Half_eq] at flags
  refine ⟨by cases rr <;> rfl, _, runs.run, ?_, flags.retire _, keeps.retire _, runs.completed rfl rfl rfl⟩
  have sum : (addHL rr s).getReg16 .hl = add16 s.hl (s.getReg16 rr) :=
    (State.getReg16_setF _ _ _ _ _ .hl).trans (s.getReg16_setReg16_same .hl _)
  calc
    (((addHL rr s).retire _).getReg16 .hl).toNat = (add16 s.hl (s.getReg16 rr)).toNat := by
      rw [State.getReg16_retire, sum]
    _ = (s.hl.toNat + (s.getReg16 rr).toNat) % 65536 := BitVec.toNat_add _ _

/-- Settles O45: the sum is signed, the flags are those of the low byte and the unsigned operand byte. -/
theorem addDisplacementToStackPointer : Obligations.AddDisplacementToStackPointer := by
  intro e s
  have runs := runs_addSP e s
  have keeps : Keeps [] [] s (addSP e s) := (keeps_setSp s (addSpResult s.sp e)).trans (keeps_setF _ _ _ _ _)
  have flags : FlagsAre (addSP e s) false false (addSpHalf s.sp e) (addSpCarry s.sp e) :=
    State.setF_flagsAre _ _ _ _ _
  rw [addSpHalf_eq, addSpCarry_eq] at flags
  refine ⟨rfl, _, runs.run, ?_, flags.retire _, keeps.retire _, runs.completed rfl rfl rfl⟩
  rw [State.retire_sp]
  exact toNat_add_sext16 s.sp e

/-- Settles O47: the register form writes the shift's result and its carry. -/
theorem shiftRegister : Obligations.ShiftRegister := by
  intro op r s
  obtain ⟨t, run, hres, flags, rest⟩ :=
    (runs_shiftReg op r s).writesReg (x := shiftFlagged op (s.getR r) s.flagC) rfl rfl
  obtain ⟨result, carry⟩ := shiftCompute_eq_shiftOnNat op (s.getR r) s.flagC
  refine ⟨by cases op <;> cases r <;> rfl, t, run, ?_, carry ▸ flags, rest⟩
  rw [hres, ← result]
  rfl

/-- Settles O49: both forms write the flags of `bit` alone. -/
theorem testBit : Obligations.TestBit := by
  intro n r s
  refine ⟨⟨by fin_cases n <;> cases r <;> rfl, ?_⟩, by fin_cases n <;> rfl, ?_⟩
  · rw [← testBit_z n (s.getR r) s.flagC]
    exact (runs_bitReg n r s).writesFlags rfl
  · rw [← testBit_z n (s.readByte s.hl) s.flagC]
    exact (runs_bitAtHL n s).writesFlags rfl

end Sys2Proof
end

section
/-!
SUPPORT. The 8-bit loads by what they write (spec/40_engine.md R142; spec/41_load8.md).
-/

namespace Sys2Proof.Machine

/-! ## Updates that leave F, SP, PC and the counter -/

/-- Between `s` and `u` nothing is written but the listed registers and the bytes at the listed addresses: no flag, SP,
PC or counter either. -/
structure WritesOnly (regs : List Reg8) (stored : List Word) (s u : State) : Prop where
  keeps : Keeps regs stored s u
  f : u.f = s.f
  sp : u.sp = s.sp
  pc : u.pc = s.pc
  cycles : u.cycles = s.cycles

theorem writesOnly_setR (s : State) (r : Reg8) (v : Byte) : WritesOnly [r] [] s (s.setR r v) :=
  ⟨keeps_setR s r v, by simp, by simp, by simp, by simp⟩

theorem writesOnly_writeByte (s : State) (a : Word) (v : Byte) : WritesOnly [] [a] s (s.writeByte a v) :=
  ⟨keeps_writeByte s a v, by simp, by simp, by simp, by simp⟩

/-- A write of HL adds H and L to the registers written. -/
theorem WritesOnly.setHL {regs : List Reg8} {stored : List Word} {s u : State} (h : WritesOnly regs stored s u)
    (w : Word) : WritesOnly (regs ++ [.h, .l]) stored s (u.setPair .hl w) := by
  refine ⟨?_, h.f, ?_, ?_, ?_⟩
  · exact (h.keeps.mono (by simp +contextual) (by simp)).trans ((keeps_setHL u w).mono (by simp) (by simp))
  · rw [State.setPair_sp, h.sp]
  · rw [State.setPair_pc, h.pc]
  · rw [State.setPair_cycles, h.cycles]

section
variable {i : Instr} {action : State → State} {len : Word} {s : State}

/-- The answer of an instruction whose action writes registers and memory alone: the action's registers and bytes, and
the frame the action has. -/
theorem RunsAs.answers {regs : List Reg8} {stored : List Word} (runs : RunsAs i action len false s)
    (h : WritesOnly regs stored s (action s)) :
    ∃ t, exec i s = .next t ∧ (∀ r, t.getR r = (action s).getR r) ∧ (∀ a, t.readByte a = (action s).readByte a) ∧
      t.f = s.f ∧ t.sp = s.sp ∧ Keeps regs stored s t ∧ Completed i len s t := by
  obtain ⟨-, -, -, -, -, -, -, -, hconfig⟩ := h.keeps
  refine ⟨_, runs.run, fun r => ?_, fun a => ?_, ?_, ?_, h.keeps.retire _, runs.completed h.pc h.cycles hconfig⟩
  · exact State.getR_retire _ _ r
  · exact State.readByte_retire _ _ a
  · rw [State.retire_f, h.f]
  · rw [State.retire_sp, h.sp]

/-- An instruction whose action is one register write. -/
theorem RunsAs.loadsReg {r : Reg8} {v : Byte} (runs : RunsAs i action len false s) (h : action s = s.setR r v) :
    ∃ t, exec i s = .next t ∧ t.getR r = v ∧ t.f = s.f ∧ t.sp = s.sp ∧ Keeps [r] [] s t ∧ Completed i len s t := by
  obtain ⟨t, run, hreg, -, rest⟩ := runs.answers (h ▸ writesOnly_setR s r v)
  exact ⟨t, run, by rw [hreg, h, State.getR_setR_same], rest⟩

/-- An instruction whose action loads A from an address. -/
theorem RunsAs.loadsA {a : Word} (runs : RunsAs i action len false s) (h : action s = loadA a s) : LoadsA i a len s :=
  runs.loadsReg (r := .a) h

/-- An instruction whose action is one store. -/
theorem RunsAs.storesByte {a : Word} {v : Byte} (runs : RunsAs i action len false s)
    (h : action s = s.writeByte a v) : StoresByte i a v len s := by
  obtain ⟨t, run, -, hbyte, rest⟩ := runs.answers (h ▸ writesOnly_writeByte s a v)
  exact ⟨t, run, by rw [hbyte, h, State.readByte_writeByte_same], rest⟩

/-! ## Indirect access (R142) -/

/-- `ind_load(p, 0)` is the load alone. -/
theorem indLoad_zero (s : State) {p : Pair} (hp : p ≠ .af) : indLoad p 0 s = loadA (s.getPair p) s := by
  have same : (loadA (s.getPair p) s).getPair p = s.getPair p := by
    cases p with
    | af => exact absurd rfl hp
    | bc | de | hl => rfl
  calc
    indLoad p 0 s = (loadA (s.getPair p) s).setPair p ((loadA (s.getPair p) s).getPair p) := by
      rw [same, indLoad, add_zero]
    _ = loadA (s.getPair p) s := State.setPair_getPair _ p fun h => absurd h hp

/-- `ind_store(p, 0)` is the store alone. -/
theorem indStore_zero (s : State) {p : Pair} (hp : p ≠ .af) : indStore p 0 s = storeA (s.getPair p) s :=
  calc
    indStore p 0 s = (storeA (s.getPair p) s).setPair p ((storeA (s.getPair p) s).getPair p) := by
      rw [indStore, add_zero]
      rfl
    _ = storeA (s.getPair p) s := State.setPair_getPair _ p fun h => absurd h hp

theorem State.hl_setPair (s : State) (w : Word) : (s.setPair .hl w).hl = w := joinBytes_hiByte_loByte w

/-- HL is a function of H and L. -/
theorem State.hl_congr {t u : State} (h : ∀ r, t.getR r = u.getR r) : t.hl = u.hl :=
  congrArg₂ joinBytes (h .h) (h .l)

/-- `ind_store(HL, delta)`: A is stored at the old HL, then HL moves. -/
theorem RunsAs.storesAndMovesHL {delta : Word} (runs : RunsAs i (indStore .hl delta) len false s) :
    ∃ t, exec i s = .next t ∧ t.readByte s.hl = s.a ∧ t.hl = s.hl + delta ∧ t.f = s.f ∧ t.sp = s.sp ∧
      Keeps [.h, .l] [s.hl] s t ∧ Completed i len s t := by
  obtain ⟨t, run, hreg, hbyte, rest⟩ := runs.answers ((writesOnly_writeByte s s.hl s.a).setHL (s.hl + delta))
  refine ⟨t, run, ?_, ?_, rest⟩
  · rw [hbyte, indStore, State.readByte_setPair]
    exact s.readByte_writeByte_same s.hl s.a
  · rw [State.hl_congr hreg]
    exact State.hl_setPair _ _

/-- `ind_load(HL, delta)`: A is loaded from the old HL, then HL moves. -/
theorem RunsAs.loadsAndMovesHL {delta : Word} (runs : RunsAs i (indLoad .hl delta) len false s) :
    ∃ t, exec i s = .next t ∧ t.a = s.readByte s.hl ∧ t.hl = s.hl + delta ∧ t.f = s.f ∧ t.sp = s.sp ∧
      Keeps [.a, .h, .l] [] s t ∧ Completed i len s t := by
  obtain ⟨t, run, hreg, -, rest⟩ := runs.answers ((writesOnly_setR s .a (s.readByte s.hl)).setHL (s.hl + delta))
  exact ⟨t, run, hreg .a, (State.hl_congr hreg).trans (State.hl_setPair _ _), rest⟩

end

/-! ## The high page -/

/-- The address of LDH and LD (C) has 0xFF as its high byte (R89). -/
theorem highPage_eq_joinBytes (n : Byte) : highPage n = joinBytes 0xFF n :=
  (BitVec.append_def (0xFF : Byte) n).symm

/-! ## The instructions outside the families -/

theorem runs_ldAtHLImm (n : Byte) (s : State) : RunsAs (.ld_atHL_d8 n) (storeImm n) 2 false s := ⟨rfl, rfl, rfl⟩

theorem runs_ldAAtBC (s : State) : RunsAs .ld_a_atBC (indLoad .bc 0) 1 false s := ⟨rfl, rfl, rfl⟩

theorem runs_ldAAtDE (s : State) : RunsAs .ld_a_atDE (indLoad .de 0) 1 false s := ⟨rfl, rfl, rfl⟩

theorem runs_ldAAtA16 (a : Word) (s : State) : RunsAs (.ld_a_atA16 a) (loadA a) 3 false s := ⟨rfl, rfl, rfl⟩

theorem runs_ldhAAtA8 (n : Byte) (s : State) : RunsAs (.ldh_a_atA8 n) (loadA (highPage n)) 2 false s :=
  ⟨rfl, rfl, rfl⟩

theorem runs_ldAAtC (s : State) : RunsAs .ld_a_atC (fun st => loadA (highPage st.c) st) 1 false s := ⟨rfl, rfl, rfl⟩

theorem runs_ldAtBCA (s : State) : RunsAs .ld_atBC_a (indStore .bc 0) 1 false s := ⟨rfl, rfl, rfl⟩

theorem runs_ldAtDEA (s : State) : RunsAs .ld_atDE_a (indStore .de 0) 1 false s := ⟨rfl, rfl, rfl⟩

theorem runs_ldAtA16A (a : Word) (s : State) : RunsAs (.ld_atA16_a a) (storeA a) 3 false s := ⟨rfl, rfl, rfl⟩

theorem runs_ldhAtA8A (n : Byte) (s : State) : RunsAs (.ldh_atA8_a n) (storeA (highPage n)) 2 false s :=
  ⟨rfl, rfl, rfl⟩

theorem runs_ldAtCA (s : State) : RunsAs .ld_atC_a (fun st => storeA (highPage st.c) st) 1 false s := ⟨rfl, rfl, rfl⟩

theorem runs_ldAtHLIncA (s : State) : RunsAs .ld_atHLinc_a (indStore .hl 1) 1 false s := ⟨rfl, rfl, rfl⟩

theorem runs_ldAtHLDecA (s : State) : RunsAs .ld_atHLdec_a (indStore .hl (-1)) 1 false s := ⟨rfl, rfl, rfl⟩

theorem runs_ldAAtHLInc (s : State) : RunsAs .ld_a_atHLinc (indLoad .hl 1) 1 false s := ⟨rfl, rfl, rfl⟩

theorem runs_ldAAtHLDec (s : State) : RunsAs .ld_a_atHLdec (indLoad .hl (-1)) 1 false s := ⟨rfl, rfl, rfl⟩

end Sys2Proof.Machine

namespace Sys2Proof
open Sys2Proof.Machine

/-! ## The obligations -/

/-- Settles O23: the action writes the source's value to the destination. -/
theorem loadRegisterFromRegister : Obligations.LoadRegisterFromRegister := by
  intro dst r s
  exact ⟨by cases dst <;> cases r <;> rfl, (runs_ldRegReg dst r s).loadsReg rfl⟩

/-- Settles O24: the action writes the operand byte to the register. -/
theorem loadRegisterImmediate : Obligations.LoadRegisterImmediate := by
  intro r n s
  exact ⟨by cases r <;> rfl, (runs_ldRegImm r n s).loadsReg rfl⟩

/-- Settles O25: the byte is read before the register is written. -/
theorem loadRegisterFromHL : Obligations.LoadRegisterFromHL := by
  intro r s
  exact ⟨by cases r <;> rfl, (runs_ldRegAtHL r s).loadsReg rfl⟩

/-- Settles O26: both actions are one store at HL. -/
theorem storeAtHL : Obligations.StoreAtHL := by
  intro r n s
  exact ⟨by cases r <;> rfl, (runs_ldAtHLReg r s).storesByte rfl, rfl, (runs_ldAtHLImm n s).storesByte rfl⟩

/-- Settles O27: each action is a load of A, at BC and DE because the pair is written back with its own value. -/
theorem loadAFromAddress : Obligations.LoadAFromAddress := by
  intro n a s
  rw [← highPage_eq_joinBytes, ← highPage_eq_joinBytes]
  refine ⟨⟨rfl, ?_⟩, ⟨rfl, ?_⟩, ⟨rfl, ?_⟩, ⟨rfl, ?_⟩, rfl, ?_⟩
  · exact (runs_ldAAtBC s).loadsA (indLoad_zero s (by decide))
  · exact (runs_ldAAtDE s).loadsA (indLoad_zero s (by decide))
  · exact (runs_ldAAtA16 a s).loadsA rfl
  · exact (runs_ldhAAtA8 n s).loadsA rfl
  · exact (runs_ldAAtC s).loadsA rfl

/-- Settles O28: each action is a store of A, at BC and DE because the pair is written back with its own value. -/
theorem storeAAtAddress : Obligations.StoreAAtAddress := by
  intro n a s
  rw [← highPage_eq_joinBytes, ← highPage_eq_joinBytes]
  refine ⟨⟨rfl, ?_⟩, ⟨rfl, ?_⟩, ⟨rfl, ?_⟩, ⟨rfl, ?_⟩, rfl, ?_⟩
  · exact (runs_ldAtBCA s).storesByte (indStore_zero s (by decide))
  · exact (runs_ldAtDEA s).storesByte (indStore_zero s (by decide))
  · exact (runs_ldAtA16A a s).storesByte rfl
  · exact (runs_ldhAtA8A n s).storesByte rfl
  · exact (runs_ldAtCA s).storesByte rfl

/-- Settles O29: the four are `ind_store` and `ind_load` of HL with 1 and -1. -/
theorem indirectLoadsChangeHLAfter : Obligations.IndirectLoadsChangeHLAfter := by
  intro s
  rw [BitVec.sub_eq_add_neg]
  exact ⟨⟨rfl, (runs_ldAtHLIncA s).storesAndMovesHL⟩, ⟨rfl, (runs_ldAtHLDecA s).storesAndMovesHL⟩,
    ⟨rfl, (runs_ldAAtHLInc s).loadsAndMovesHL⟩, rfl, (runs_ldAAtHLDec s).loadsAndMovesHL⟩

end Sys2Proof
end

section
/-!
SUPPORT. The 16-bit loads by what they write (spec/42_load16_stack.md R180 to R183).
-/

namespace Sys2Proof.Machine

/-! ## 16-bit operands -/

/-- An instruction whose action is one write of a 16-bit operand. -/
theorem RunsAs.writesReg16 {i : Instr} {action : State → State} {len w : Word} {s : State} {rr : Reg16}
    (runs : RunsAs i action len false s) (h : action s = s.setReg16 rr w) :
    ∃ t, exec i s = .next t ∧ t.getReg16 rr = w ∧ t.f = s.f ∧ KeepsPairs [rr] s t ∧ Completed i len s t := by
  have done := runs.completed (by simp [h]) (by simp [h]) (by simp [h])
  have run := runs.run
  rw [h] at run done
  refine ⟨_, run, ?_, by simp, (keepsPairs_setReg16 s rr w).retire _, done⟩
  rw [State.getReg16_retire, State.getReg16_setReg16_same]

/-! ## SP in memory -/

theorem writesOnly_writeWord (s : State) (a w : Word) : WritesOnly [] [a, a + 1] s (s.writeWord a w) where
  keeps := ⟨fun r _ => by cases r <;> rfl, sameMem_writeWord s a w, SameControl.rfl⟩
  f := rfl
  sp := rfl
  pc := rfl
  cycles := rfl

/-! ## HL from SP -/

theorem loadHLFromSP_hl (e : Byte) (s : State) : (loadHLFromSP e s).hl = s.sp + sext16 e :=
  State.hl_setPair s (addSpResult s.sp e)

/-- The flags are those of the low byte and the unsigned operand byte (R140). -/
theorem loadHLFromSP_flagsAre (e : Byte) (s : State) :
    FlagsAre (loadHLFromSP e s) false false (decide (15 < s.sp.toNat % 16 + e.toNat % 16))
      (decide (255 < s.sp.toNat % 256 + e.toNat)) := by
  rw [← addSpHalf_eq, ← addSpCarry_eq]
  exact State.setF_flagsAre _ _ _ _ _

theorem keeps_loadHLFromSP (e : Byte) (s : State) : Keeps [.h, .l] [] s (loadHLFromSP e s) :=
  (keeps_setHL s (addSpResult s.sp e)).trans ((keeps_setF _ _ _ _ _).mono (by simp) (by simp))

/-! ## The instructions outside the families -/

theorem runs_ldAtA16SP (a : Word) (s : State) : RunsAs (.ld_atA16_sp a) (storeSP a) 3 false s := ⟨rfl, rfl, rfl⟩

theorem runs_ldSPHL (s : State) : RunsAs .ld_sp_hl loadSPFromHL 1 false s := ⟨rfl, rfl, rfl⟩

theorem runs_ldHLSPE8 (e : Byte) (s : State) : RunsAs (.ld_hl_spE8 e) (loadHLFromSP e) 2 false s := ⟨rfl, rfl, rfl⟩

end Sys2Proof.Machine

namespace Sys2Proof
open Sys2Proof.Machine

/-! ## The obligations -/

/-- Settles O30: the action writes the operand word to the pair or SP. -/
theorem loadPairImmediate : Obligations.LoadPairImmediate := by
  intro rr w s
  exact ⟨by cases rr <;> rfl, (runs_ldPairImm rr w s).writesReg16 rfl⟩

/-- Settles O31: the action writes SP as a word, whose two bytes lie at different addresses. -/
theorem storeStackPointer : Obligations.StoreStackPointer := by
  intro a s
  obtain ⟨t, run, -, hbyte, rest⟩ := (runs_ldAtA16SP a s).answers (writesOnly_writeWord s a s.sp)
  refine ⟨rfl, t, run, ?_, ?_, rest⟩
  · rw [hbyte, storeSP, State.readByte_writeWord_low]
  · rw [hbyte, storeSP, State.readByte_writeWord_high]

/-- Settles O32: one action copies HL to SP, the other one writes the signed sum to HL and then the flags. -/
theorem loadBetweenStackPointerAndHL : Obligations.LoadBetweenStackPointerAndHL := by
  intro e s
  constructor
  · have runs := runs_ldSPHL s
    exact ⟨rfl, _, runs.run, State.retire_sp _ _, State.retire_f _ _, (keeps_setSp s s.hl).retire _,
      runs.completed rfl rfl rfl⟩
  · have runs := runs_ldHLSPE8 e s
    refine ⟨rfl, _, runs.run, ?_, State.retire_sp _ _, (loadHLFromSP_flagsAre e s).retire _,
      (keeps_loadHLFromSP e s).retire _, runs.completed rfl rfl rfl⟩
    rw [State.hl_congr (State.getR_retire _ _), loadHLFromSP_hl]
    exact toNat_add_sext16 s.sp e

end Sys2Proof
end

section
/-!
SUPPORT. The 8-bit instructions that write flags alone, and CPL (spec/43_alu8.md R221 to R223, R229 to R231).
-/

namespace Sys2Proof.Machine

/-! ## Comparison -/

/-- With no borrow in, the difference is 0 iff the operands are equal (R125). -/
theorem sub8_z (a b : Byte) : (sub8 a b false).z = (a == b) := by
  have hres : (sub8 a b false).res = a - b := BitVec.sub_zero (a - b)
  have hz : (sub8 a b false).z = (a - b == 0) := congrArg (· == 0) hres
  rw [hz, Bool.eq_iff_iff, beq_iff_eq, beq_iff_eq]
  exact sub_eq_zero

/-- CP writes the flags of the subtraction (R221 to R223). -/
theorem writesFlags_cp (src : Source) (s : State) :
    WritesFlags (instrAlu .cp src) (sub8 s.a (s.source src) false) (sourceLength src) s :=
  (runs_alu .cp src s).writesFlags rfl

/-! ## Flags given one by one -/

/-- An instruction whose action is one write of four flags. -/
theorem RunsAs.writesF {i : Instr} {action : State → State} {len : Word} {s : State} {z n h c : Bool}
    (runs : RunsAs i action len false s) (hact : action s = s.setF z n h c) :
    ∃ t, exec i s = .next t ∧ FlagsAre t z n h c ∧ t.sp = s.sp ∧ Keeps [] [] s t ∧ Completed i len s t :=
  runs.writesFlags (x := { res := 0, z, n, h, c }) hact

/-! ## Complement of A -/

theorem toNat_complementA_a (s : State) : (complementA s).a.toNat = 255 - s.a.toNat :=
  BitVec.toNat_not

theorem complementA_flagsAre (s : State) : FlagsAre (complementA s) s.flagZ true true s.flagC :=
  State.setF_flagsAre _ _ _ _ _

theorem keeps_complementA (s : State) : Keeps [.a] [] s (complementA s) :=
  (keeps_setR s .a (~~~s.a)).trans ((keeps_setF _ _ _ _ _).mono (by simp) (by simp))

/-! ## The instructions outside the families -/

theorem runs_cpl (s : State) : RunsAs .cpl complementA 1 false s := ⟨rfl, rfl, rfl⟩

theorem runs_scf (s : State) : RunsAs .scf setCarry 1 false s := ⟨rfl, rfl, rfl⟩

theorem runs_ccf (s : State) : RunsAs .ccf complementCarry 1 false s := ⟨rfl, rfl, rfl⟩

end Sys2Proof.Machine

namespace Sys2Proof
open Sys2Proof.Machine

/-! ## The obligations -/

/-- Settles O38: CP writes the flags of `sub8` with no borrow in, and no result. -/
theorem compare : Obligations.Compare := by
  intro src s
  obtain ⟨t, run, flags, rest⟩ := writesFlags_cp src s
  rw [sub8_z, sub8_h, sub8_c] at flags
  exact ⟨encode_instrAlu .cp src, t, run, flags, rest⟩

/-- Settles O42: CPL writes A and then the flags, SCF and CCF the flags alone; each writes Z as it was. -/
theorem complementAndCarryFlags : Obligations.ComplementAndCarryFlags := by
  intro s
  refine ⟨⟨rfl, ?_⟩, ⟨rfl, (runs_scf s).writesF rfl⟩, rfl, (runs_ccf s).writesF rfl⟩
  have runs := runs_cpl s
  refine ⟨_, runs.run, ?_, (complementA_flagsAre s).retire _, State.retire_sp _ _, (keeps_complementA s).retire _,
    runs.completed rfl rfl rfl⟩
  rw [State.retire_a, toNat_complementA_a]

end Sys2Proof
end

section
namespace Sys2Proof
open Sys2Proof.Machine

/-! ## 16-bit increment and decrement (spec/44_alu16.md R241, R242) -/

/-- Settles O44: each action is one write of the operand, and the word operations wrap modulo 0x10000. -/
theorem incrementAndDecrementPair : Obligations.IncrementAndDecrementPair := by
  intro rr s
  constructor
  · obtain ⟨t, run, hvalue, rest⟩ := (runs_incPair rr s).writesReg16 rfl
    refine ⟨by cases rr <;> rfl, t, run, ?_, rest⟩
    rw [hvalue, BitVec.toNat_add]
    rfl
  · obtain ⟨t, run, hvalue, rest⟩ := (runs_decPair rr s).writesReg16 rfl
    refine ⟨by cases rr <;> rfl, t, run, ?_, rest⟩
    rw [hvalue, BitVec.sub_eq_add_neg, BitVec.toNat_add]
    rfl

end Sys2Proof
end

section
/-!
SUPPORT. The rotates of A, and the (HL) and bit forms of the 0xCB group, by what they write
(spec/45_rotate_shift_bit.md).
-/

namespace Sys2Proof.Machine

/-! ## Rotates of A -/

/-- An instruction whose action is a rotate of A writes A and C, with the other flags 0 (R250 to R253). -/
theorem RunsAs.rotatesA {i : Instr} {op : ShiftOp} {len : Word} {s : State} (runs : RunsAs i (rotateA op) len false s) :
    ∃ t, exec i s = .next t ∧ t.a.toNat = (shiftOnNat op s.a.toNat s.flagC.toNat).1 ∧
      FlagsAre t false false false (shiftOnNat op s.a.toNat s.flagC.toNat).2 ∧ t.sp = s.sp ∧ Keeps [.a] [] s t ∧
      Completed i len s t := by
  obtain ⟨result, carry⟩ := shiftCompute_eq_shiftOnNat op s.a s.flagC
  have flags : FlagsAre (rotateA op s) false false false (shiftCompute op s.a s.flagC).2 :=
    State.setF_flagsAre _ _ _ _ _
  have keeps : Keeps [.a] [] s (rotateA op s) :=
    (keeps_setR s .a _).trans ((keeps_setF _ _ _ _ _).mono (by simp) (by simp))
  exact ⟨_, runs.run, (congrArg BitVec.toNat (State.retire_a _ _)).trans result, carry ▸ flags.retire _,
    State.retire_sp _ _, keeps.retire _, runs.completed rfl rfl rfl⟩

/-! ## One bit of a byte -/

/-- The mask of bit `n`. -/
theorem getLsbD_one_shiftLeft (n k : Fin 8) : ((1 : Byte) <<< n.val).getLsbD k = decide (k = n) := by
  have mask : ((1 : Byte) <<< n.val).getLsbD k = (decide (n.val < 8) && decide (n.val = k.val)) :=
    BitVec.getLsbD_twoPow n k
  rw [mask, decide_eq_true n.isLt, Bool.true_and, decide_eq_decide]
  exact Fin.ext_iff.symm.trans eq_comm

/-- RES writes 0 to its bit and keeps the others (R272). -/
theorem getLsbD_resetBit (n k : Fin 8) (v : Byte) :
    (resetBit n v).getLsbD k = if k = n then false else v.getLsbD k := by
  rw [resetBit, BitVec.getLsbD_and, BitVec.getLsbD_not, getLsbD_one_shiftLeft]
  split <;> simp [*]

/-- SET writes 1 to its bit and keeps the others (R274). -/
theorem getLsbD_assertBit (n k : Fin 8) (v : Byte) :
    (assertBit n v).getLsbD k = if k = n then true else v.getLsbD k := by
  rw [assertBit, BitVec.getLsbD_or, getLsbD_one_shiftLeft]
  split <;> simp [*]

/-! ## The instructions outside the families -/

theorem runs_rlca (s : State) : RunsAs .rlca (rotateA .rlc) 1 false s := ⟨rfl, rfl, rfl⟩

theorem runs_rrca (s : State) : RunsAs .rrca (rotateA .rrc) 1 false s := ⟨rfl, rfl, rfl⟩

theorem runs_rla (s : State) : RunsAs .rla (rotateA .rl) 1 false s := ⟨rfl, rfl, rfl⟩

theorem runs_rra (s : State) : RunsAs .rra (rotateA .rr) 1 false s := ⟨rfl, rfl, rfl⟩

end Sys2Proof.Machine

namespace Sys2Proof
open Sys2Proof.Machine

/-! ## The obligations -/

/-- Settles O46: each of the four actions is a rotate of A with Z, N and H written as 0. -/
theorem rotateAccumulator : Obligations.RotateAccumulator := by
  intro s x hx
  obtain rfl | rfl | rfl | rfl :
      x = (.rlca, 0x07, .rlc) ∨ x = (.rrca, 0x0F, .rrc) ∨ x = (.rla, 0x17, .rl) ∨ x = (.rra, 0x1F, .rr) := by
    simpa using hx
  · exact ⟨rfl, (runs_rlca s).rotatesA⟩
  · exact ⟨rfl, (runs_rrca s).rotatesA⟩
  · exact ⟨rfl, (runs_rla s).rotatesA⟩
  · exact ⟨rfl, (runs_rra s).rotatesA⟩

/-- Settles O48: the (HL) form writes the shift's result to the byte at HL and its carry to C. -/
theorem shiftAtHL : Obligations.ShiftAtHL := by
  intro op s
  obtain ⟨t, run, hres, flags, rest⟩ :=
    (runs_shiftAtHL op s).writesByte (x := shiftFlagged op (s.readByte s.hl) s.flagC) rfl rfl
  obtain ⟨result, carry⟩ := shiftCompute_eq_shiftOnNat op (s.readByte s.hl) s.flagC
  exact ⟨by cases op <;> rfl, t, run, (congrArg BitVec.toNat hres).trans result, carry ▸ flags, rest⟩

/-- Settles O50: both actions are one write of the register, whose new value differs in the bit alone. -/
theorem resetAndSetBitOfRegister : Obligations.ResetAndSetBitOfRegister := by
  intro n r s
  constructor
  · obtain ⟨t, run, hreg, rest⟩ := (runs_resReg n r s).loadsReg (v := resetBit n (s.getR r)) rfl
    exact ⟨by fin_cases n <;> cases r <;> rfl, t, run, fun k => hreg ▸ getLsbD_resetBit n k _, rest⟩
  · obtain ⟨t, run, hreg, rest⟩ := (runs_setReg n r s).loadsReg (v := assertBit n (s.getR r)) rfl
    exact ⟨by fin_cases n <;> cases r <;> rfl, t, run, fun k => hreg ▸ getLsbD_assertBit n k _, rest⟩

/-- Settles O51: both actions are one store at HL, whose new byte differs in the bit alone. -/
theorem resetAndSetBitAtHL : Obligations.ResetAndSetBitAtHL := by
  intro n s
  constructor
  · obtain ⟨t, run, hbyte, rest⟩ :=
      (runs_resAtHL n s).storesByte (a := s.hl) (v := resetBit n (s.readByte s.hl)) rfl
    exact ⟨by fin_cases n <;> rfl, t, run, fun k => hbyte ▸ getLsbD_resetBit n k _, rest⟩
  · obtain ⟨t, run, hbyte, rest⟩ :=
      (runs_setAtHL n s).storesByte (a := s.hl) (v := assertBit n (s.readByte s.hl)) rfl
    exact ⟨by fin_cases n <;> rfl, t, run, fun k => hbyte ▸ getLsbD_assertBit n k _, rest⟩

end Sys2Proof
end

section
/-!
SUPPORT. The absolute jumps (spec/46_control.md R290 to R292).
-/

namespace Sys2Proof.Machine

/-- A conditional jump writes PC alone: `a` when taken, the next instruction when not (R291). -/
theorem jumpCond_eq (cc : Cond) (a : Word) (s : State) :
    jumpCond cc a s = { s with pc := if s.cond cc then a else s.pc + 3 } := by
  rw [jumpCond, jump]
  split <;> rfl

theorem runs_jp (a : Word) (s : State) : RunsAs (.jp_a16 a) (jump a) 3 true s := ⟨rfl, rfl, rfl⟩

theorem runs_jpHL (s : State) : RunsAs .jp_hl jumpHL 1 true s := ⟨rfl, rfl, rfl⟩

end Sys2Proof.Machine

namespace Sys2Proof
open Sys2Proof.Machine

/-- Settles O52: each of the three actions is one write of PC. -/
theorem absoluteJumps : Obligations.AbsoluteJumps := by
  intro cc a s
  refine ⟨⟨rfl, (runs_jp a s).jumps rfl⟩, ⟨rfl, (runs_jpHL s).jumps rfl⟩, ?_, ?_⟩
  · cases cc <;> rfl
  · exact (runs_jpCond cc a s).jumps (jumpCond_eq cc a s)

end Sys2Proof
end

section
/-!
SUPPORT. NOP, HALT, STOP, DI and EI by the control bits they write (spec/47_misc.md R310 to R314).
-/

namespace Sys2Proof.Machine

section
variable {i : Instr} {action : State → State} {len : Word} {s : State}

/-- An instruction whose action writes IME and `halted` alone. -/
theorem RunsAs.writesImeHalted {ime halted : Bool} (runs : RunsAs i action len false s)
    (h : action s = { s with ime, halted }) :
    ∃ t, exec i s = .next t ∧ t.ime = ime ∧ t.halted = halted ∧ t.f = s.f ∧ t.sp = s.sp ∧
      Keeps [] [] { s with ime, halted } t ∧ Completed i len s t := by
  have done := runs.completed (by rw [h]) (by rw [h]) (by rw [h])
  have run := runs.run
  rw [h] at run done
  exact ⟨_, run, State.retire_ime _ _, State.retire_halted _ _, State.retire_f _ _, State.retire_sp _ _,
    keeps_retire _ _, done⟩

/-- An instruction whose action sets `halted`: the step after it does nothing (R117). -/
theorem RunsAs.halts (runs : RunsAs i action len false s) (h : action s = { s with halted := true }) :
    ∃ t, exec i s = .next t ∧ t.halted = true ∧ t.f = s.f ∧ t.sp = s.sp ∧ Keeps [] [] { s with halted := true } t ∧
      Completed i len s t ∧ step t = .next t := by
  obtain ⟨t, run, -, halted, hf, hsp, keeps, done⟩ := runs.writesImeHalted h
  exact ⟨t, run, halted, hf, hsp, keeps, done, step_halted halted⟩

end

/-! ## The instructions outside the families -/

theorem runs_nop (s : State) : RunsAs .nop noOperation 1 false s := ⟨rfl, rfl, rfl⟩

theorem runs_di (s : State) : RunsAs .di disableInterrupts 1 false s := ⟨rfl, rfl, rfl⟩

theorem runs_ei (s : State) : RunsAs .ei enableInterrupts 1 false s := ⟨rfl, rfl, rfl⟩

theorem runs_halt (s : State) : RunsAs .halt enterHalt 1 false s := ⟨rfl, rfl, rfl⟩

theorem runs_stop (x : Byte) (s : State) : RunsAs (.stop x) (enterStop x) 2 false s := ⟨rfl, rfl, rfl⟩

end Sys2Proof.Machine

namespace Sys2Proof
open Sys2Proof.Machine

/-! ## The obligations -/

/-- Settles O58: NOP writes IME and `halted` as they were, DI and EI write IME alone. -/
theorem nopDiEi : Obligations.NopDiEi := by
  intro s
  refine ⟨⟨rfl, ?_⟩, ⟨rfl, ?_⟩, rfl, ?_⟩
  · obtain ⟨t, run, -, -, rest⟩ := (runs_nop s).writesImeHalted (ime := s.ime) (halted := s.halted) rfl
    exact ⟨t, run, rest⟩
  · obtain ⟨t, run, ime, -, rest⟩ := (runs_di s).writesImeHalted (ime := false) (halted := s.halted) rfl
    exact ⟨t, run, ime, rest⟩
  · obtain ⟨t, run, ime, -, rest⟩ := (runs_ei s).writesImeHalted (ime := true) (halted := s.halted) rfl
    exact ⟨t, run, ime, rest⟩

/-- Settles O59: both actions set `halted`, which stops the step after. -/
theorem haltAndStop : Obligations.HaltAndStop := by
  intro x s
  exact ⟨⟨rfl, (runs_halt s).halts rfl⟩, rfl, (runs_stop x s).halts rfl⟩

end Sys2Proof
end

section
/-!
SUPPORT. A bridge whose callbacks do nothing (spec/60_exceptions.md R410): a publication only adds to its record, and
no action reads the bridge.
-/

namespace Sys2Proof.Machine

/-! ## The state without the bridge -/

/-- The state with no bridge attached. -/
def State.detach (s : State) : State := { s with bridge := none }

theorem State.detach_note (s : State) (r : HostRecord) : (s.note r).detach = s.detach := rfl

/-- The fetch does not see the bridge. -/
theorem State.atOpAddr_detach (s : State) : s.detach.atOpAddr = s.atOpAddr.detach := by
  by_cases h : s.readByte s.pc = 0xCB
  · rw [s.atOpAddr_of_prefix h]
    exact State.atOpAddr_of_prefix (s := s.detach) h
  · rw [s.atOpAddr_of_not_prefix h]
    exact State.atOpAddr_of_not_prefix (s := s.detach) h

theorem State.retire_detach (s : State) (k : OpKey) : s.detach.retire k = (s.retire k).detach := by
  unfold State.retire State.advance
  split <;> rfl

/-- What an action does to the rest does not depend on the bridge. -/
theorem RestChange.withoutBridge {k : OpKey} {φ : Rest → Rest} (h : RestChange k φ) (u : Rest) :
    φ { u with bridge := none } = { φ u with bridge := none } := by
  cases h <;> rfl

/-- No action sees the bridge. -/
theorem action_detach {k : OpKey} {act : State → State} (h : IsAction k act) (s : State) :
    act s.detach = (act s).detach := by
  obtain ⟨φ, hφ, hact⟩ := action_withRest h
  have hrest : (act s).rest = φ s.rest := congrArg State.rest (hact s s.rest)
  calc
    act s.detach = (act s).withRest (φ { s.rest with bridge := none }) := hact s { s.rest with bridge := none }
    _ = (act s).withRest { (act s).rest with bridge := none } := by rw [hφ.withoutBridge, hrest]
    _ = (act s).detach := rfl

/-- No instruction that runs an action sees the bridge. -/
theorem RunsAction.exec_detach {i : Instr} (runs : RunsAction i) {s t : State} (h : exec i s = .next t) :
    exec i s.detach = .next t.detach := by
  obtain ⟨act, ha, hx⟩ := runs
  rw [hx] at h
  cases h
  rw [hx, action_detach ha, State.retire_detach]

/-! ## The idle bridge -/

/-- A bridge is attached whose callbacks to come do nothing (R410). -/
def State.Idle (s : State) : Prop := ∃ br, s.bridge = some br ∧ br.behaviours = []

theorem State.Idle.of_bridge {s t : State} (hs : s.Idle) (h : t.bridge = s.bridge) : t.Idle := by
  rwa [State.Idle, h]

theorem State.Idle.note {s : State} (hs : s.Idle) (r : HostRecord) : (s.note r).Idle := by
  obtain ⟨br, hb, idle⟩ := hs
  exact ⟨{ br with record := br.record ++ [r] }, by simp [State.note, hb], idle⟩

/-- Past the end of the tape a callback does nothing. -/
theorem invokeCallback_of_idle {s : State} (hs : s.Idle) : invokeCallback s = s := by
  obtain ⟨⟨subscriptions, _, record⟩, hb, rfl⟩ := hs
  calc
    invokeCallback s = { s with bridge := some ⟨subscriptions, [], record⟩ } := by
      simp only [invokeCallback, hb]
      rfl
    _ = s := by rw [← hb]

theorem invokeCallbacks_of_idle {s : State} (hs : s.Idle) (n : Nat) : invokeCallbacks n s = s := by
  induction n with
  | zero => rfl
  | succ n ih => rw [invokeCallbacks, invokeCallback_of_idle hs, ih]

/-- A publication to an idle bridge puts the event on the record, and does nothing else (R410). -/
theorem State.fire_of_idle {s : State} (hs : s.Idle) (e : Event) : s.fire e = s.note (.event e) := by
  have ⟨br, hb, _⟩ := hs
  simp only [State.fire, hb]
  exact invokeCallbacks_of_idle (hs.note _) _

theorem State.detach_fire_of_idle {s : State} (hs : s.Idle) (e : Event) : (s.fire e).detach = s.detach := by
  rw [State.fire_of_idle hs, State.detach_note]

theorem State.Idle.atOpAddr {s : State} (hs : s.Idle) : s.atOpAddr.Idle := hs.of_bridge s.atOpAddr_bridge

theorem State.Idle.ready {s : State} (hs : s.Idle) : s.ready.Idle := by
  rw [State.ready, State.fire_of_idle hs.atOpAddr]
  exact hs.atOpAddr.note _

/-- A step with an idle bridge is the step without it, the bridge apart. -/
theorem step_detach_of_idle {s t : State} (hs : s.Idle) (h : step s = .next t) :
    step s.detach = .next t.detach := by
  cases hh : s.halted with
  | true =>
    rw [step_halted hh] at h
    cases h
    exact step_halted (s := s.detach) hh
  | false =>
    cases hk : s.config.has s.fetchKey with
    | false =>
      rw [step_stalled hh hk] at h
      cases h
      rw [State.detach_fire_of_idle hs.atOpAddr, ← State.atOpAddr_detach]
      exact (step_stalled (s := s.detach) hh hk).trans
        (congrArg _ (State.fire_of_no_bridge (State.atOpAddr_bridge s.detach) _))
    | true =>
      obtain ⟨u, hu, hub, hstep⟩ := step_executed_next hh hk
      rw [hstep] at h
      cases h
      have runs : RunsAction (s.ready.instrAt s.fetchKey) := instrAt_runsAction (by rwa [State.ready_config])
      have hready : s.detach.atOpAddr = s.ready.detach := by
        rw [State.ready, State.detach_fire_of_idle hs.atOpAddr, State.atOpAddr_detach]
      calc
        step s.detach = exec (s.detach.atOpAddr.instrAt s.fetchKey) s.detach.atOpAddr :=
          step_of_no_bridge (s := s.detach) hh rfl
        _ = exec (s.ready.instrAt s.fetchKey) s.ready.detach := by rw [hready]; rfl
        _ = .next u.detach := runs.exec_detach hu
        _ = .next (u.fire _).detach := by rw [State.detach_fire_of_idle (hs.ready.of_bridge hub)]

/-- Settles O16: every publication of the step leaves an idle bridge idle, and the state without it as it was. -/
theorem idleBridgeChangesNothing : Obligations.IdleBridgeChangesNothing :=
  fun _ _ br hb idle h => step_detach_of_idle ⟨br, hb, idle⟩ h

/-! ## A failing callback -/

/-- A body that writes and then fails: the byte stays, the error is logged, and the rest of the body does not run
(R413). -/
theorem invokeCallback_of_failing_write {s : State} {br : Bridge} {a : Word} {v : Byte} {rest : List ScriptAction}
    {more : List (List ScriptAction)} (hb : s.bridge = some br)
    (hbody : br.behaviours = (.writeByte a v :: .raiseError :: rest) :: more) :
    invokeCallback s = { s.writeByte a v with
      bridge := some { br with behaviours := more, record := br.record ++ [.errorLogged] } } := by
  simp only [invokeCallback, hb, Bridge.nextBehaviour, hbody]
  rfl

/-- Settles O17: the frame of a publication, and the two actions of the failing body. -/
theorem callbacksTouchMemoryAndRunModeOnly : Obligations.CallbacksTouchMemoryAndRunModeOnly := by
  refine ⟨fun e s => ?_, fun s br a v rest more hb hbody => ?_⟩
  · obtain ⟨m, r, br, h⟩ := (hostMove_fire e s).frame
    exact ⟨m, r, br, h, fun hb => s.fire_of_no_bridge hb e⟩
  · have run := invokeCallback_of_failing_write hb hbody
    exact ⟨run, run ▸ s.readByte_writeByte_same a v⟩

end Sys2Proof.Machine
end

section
/-!
SUPPORT. The state at reset, what the host reads of a state, and the driving loop (spec/60_exceptions.md R412, R415;
spec/70_reset_and_hazards.md R452, R457).
-/

namespace Sys2Proof.Machine

/-! ## Reset -/

/-- Memory at reset lists no byte, which is its canonical form; F is 0. -/
theorem State.reset_inv : State.reset.Inv := ⟨Memory.wf_nil, rfl⟩

/-- Settles O12: beside the invariant, the values are those `State.reset` writes out. -/
theorem resetMeetsInvariant : Obligations.ResetMeetsInvariant :=
  ⟨State.reset_inv, rfl, rfl, rfl, rfl, rfl⟩

/-! ## `cpuState()` -/

/-- The flag string letter by letter (R415). -/
theorem State.toList_flagString (s : State) :
    s.flagString.toList =
      [if s.flagZ then 'Z' else s.config.flagPlaceholder, if s.flagN then 'N' else s.config.flagPlaceholder,
       if s.flagH then 'H' else s.config.flagPlaceholder, if s.flagC then 'C' else s.config.flagPlaceholder] :=
  String.toList_ofList

/-- Settles O22: each field is copied from the state, and a pair is its two registers joined. -/
theorem cpuStateShowsRegisters : Obligations.CpuStateShowsRegisters :=
  fun s => ⟨rfl, rfl, rfl, rfl, rfl, rfl, rfl, rfl, rfl, rfl, rfl, rfl, rfl, rfl, s.toList_flagString⟩

/-! ## The driving loop -/

/-- Running, a turn of the loop is a step (R457). -/
theorem loopTurn_running {s : State} (h : s.runMode = .running) (first : Bool) : loopTurn first s = step s := by
  simp [loopTurn, State.waiting, h]

/-- Waiting, a turn of the loop serves a signal, or polls (R412). -/
theorem loopTurn_waiting {s : State} (h : s.runMode = .awaitingDebugStep) (first : Bool) :
    loopTurn first s =
      if s.stepSignal && (first || !s.continueSignal) then takeStep s
      else if s.continueSignal then takeContinue s
      else .next s := by
  simp [loopTurn, State.waiting, h]

/-- Settles O21: by the signals that wait; of two, `first` says which is taken. -/
theorem loopServesSignals : Obligations.LoopServesSignals := by
  intro first s
  refine ⟨fun h => loopTurn_running h first, fun h hs hc => ?_, fun h hs hc => ?_, fun h hs hc => ?_,
    fun h hs hc => ?_⟩
  · simp [loopTurn_waiting h, hs, hc]
  · simp [loopTurn_waiting h, hs, hc, takeStep]
  · simp [loopTurn_waiting h, hs, hc, takeContinue]
  · cases first with
    | true => exact .inl (by simp [loopTurn_waiting h, hs, takeStep])
    | false => exact .inr (by simp [loopTurn_waiting h, hs, hc, takeContinue])

end Sys2Proof.Machine
end
